-- ==== Sys2Proof/Word.lean ====
section
/-! DEFINITION. The two word types of the block: the byte of a buffer and the 32-bit register word
(spec/00_scope.md R9, spec/20_memory.md R51). -/

namespace Sys2Proof

/-- One byte of a buffer, 0..255 (R9). -/
abbrev Byte := BitVec 8

/-- One host register word: every register of the window is 32 bits wide (R51). -/
abbrev Word := BitVec 32

end Sys2Proof
end

