-- ==== Sys2Proof/Syntax.lean ====
section
/-! DEFINITION. What the host can say to the block: the four commands of the opcode table (R12, R71), the
register names of the window (R51), and the host's inputs, one bus transaction or a reset at a time
(R50, R89, R180). -/

namespace Sys2Proof

/-- The four commands, one constructor per row of spec/opcode_table.json (R12, R71). A command has no operand
field: its operands stand in the argument registers and in `IN` (R70). -/
inductive Instr where
  /-- ENCODE, 41_encode.md R126. -/
  | encode
  /-- VALIDATE, 42_validate.md R140. -/
  | validate
  /-- DERIVE, 40_derive.md R105. -/
  | derive
  /-- UNPACK, 43_unpack.md R151. -/
  | unpack
  deriving DecidableEq, Repr

/-- The registers of the window, by the names of the register map (R51). `rateTable i`, `outW k` and `inW k`
are the three arrays of 32 words. -/
inductive Reg where
  | cmd | status | info
  | argHact | argVact | argRate | inLen
  | rateCount
  | dHtotal | dVtotal | dPclkLo | dPclkHi | dClk10kLo | dClk10kHi
  | uClock10k | uHact | uHblank | uVact | uVblank | uHso | uHsp | uVso | uVsp
  | rateTable (i : Fin 32)
  | outW (k : Fin 32)
  | inW (k : Fin 32)
  deriving DecidableEq, Repr

/-- One input of the block. `read off n` and `write off n v` are the transactions `MemRead(BASE + off, n)` and
`MemWrite(BASE + off, n, v)` (R50), written as in the host program's triples (R89) with the access size `n`
beside them; `reset` is the reset of R180. -/
inductive HostInput where
  | read (off : BitVec 12) (n : Nat)
  | write (off : BitVec 12) (n : Nat) (v : Word)
  | reset
  deriving DecidableEq, Repr

end Sys2Proof
end

