-- ==== Sys2Proof/Decode.lean ====
section
/-! DEFINITION. The command word (spec/30_encoding.md R70 to R73): its two fields, the decoder, total on every
32-bit word, and the encoder written from the opcode map. -/

namespace Sys2Proof

/-- `OP`, bits 3:0 of a command word (R70). -/
def opField (w : Word) : BitVec 4 := w.extractLsb' 0 4

/-- `RSVD`, bits 31:4 of a command word (R70). -/
def rsvdField (w : Word) : BitVec 28 := w.extractLsb' 4 28

/-- What a command word selects: a command, or IllegalCommand with the reason it is none (R72, R164). -/
inductive Decoded where
  | command (i : Instr)
  /-- `RSVD ≠ 0`. -/
  | reservedBits
  /-- `OP` is 0 or 5..15. -/
  | reservedOpcode
  deriving DecidableEq, Repr

/-- `decode(w)` (R72). -/
def decode (w : Word) : Decoded :=
  if rsvdField w ≠ 0 then .reservedBits
  else if opField w = 0x1 then .command .encode
  else if opField w = 0x2 then .command .validate
  else if opField w = 0x3 then .command .derive
  else if opField w = 0x4 then .command .unpack
  else .reservedOpcode

/-- The opcode map (R71). -/
def opcode : Instr → BitVec 4
  | .encode => 0x1
  | .validate => 0x2
  | .derive => 0x3
  | .unpack => 0x4

/-- The full word of a command: `RSVD = 0` above its `OP` (R71). -/
def encode (i : Instr) : Word := 0#28 ++ opcode i

/-- The command word whose bits the opcode table numbers `w`: a command word is one 32-bit value (R70), so the
table's bit numbers are the word's own. -/
def tableWord (nbits w : Nat) : Word := BitVec.ofNat 32 (w % 2 ^ nbits)

/-- The instruction the decoder reads from a table word, if it is one; a length above 32 bits is no command
(R70). -/
def decodeTableWord (nbits w : Nat) : Option Instr :=
  if nbits ≤ 32 then
    match decode (tableWord nbits w) with
    | .command i => some i
    | .reservedBits => none
    | .reservedOpcode => none
  else none

/-- ENCODE's word as R71 writes it out. -/
theorem decode_encode_word : decode 0b0000_0000_0000_0000_0000_0000_0000_0001#32 = .command .encode := by decide

/-- VALIDATE's word as R71 writes it out. -/
theorem decode_validate_word : decode 0b0000_0000_0000_0000_0000_0000_0000_0010#32 = .command .validate := by decide

/-- DERIVE's word as R71 writes it out. -/
theorem decode_derive_word : decode 0b0000_0000_0000_0000_0000_0000_0000_0011#32 = .command .derive := by decide

/-- UNPACK's word as R71 writes it out. -/
theorem decode_unpack_word : decode 0b0000_0000_0000_0000_0000_0000_0000_0100#32 = .command .unpack := by decide

end Sys2Proof
end

