-- ==== Sys2Proof/Config.lean ====
section
/-! DEFINITION. The configuration record `Cfg` of spec/00_scope.md R6, fixed when the block is built (R183):
the constants, the parameters, and the OPEN parameters as opaque constants. -/

namespace Sys2Proof

/-- `CLOCK_ROUNDING`'s three named values (R6, R7 item 4, R11). -/
inductive Rounding where
  | nearestTiesEven
  | nearestTiesAway
  | floor
  deriving DecidableEq, Repr

/-- `PROFILE`: the constant byte strings of the block, each of exactly the length that R31 gives, so that item 3
of R7 holds of every value of this type. -/
structure Profile where
  mfr : Vector Byte 2
  product : Vector Byte 2
  serial : Vector Byte 4
  date : Vector Byte 2
  version : Vector Byte 2
  display : Vector Byte 5
  color : Vector Byte 10
  established : Vector Byte 3
  standard : Vector Byte 16
  dtdTail : Vector Byte 6
  nameDesc : Vector Byte 18
  rangeDesc : Vector Byte 18
  fillerDesc : Vector Byte 18
  extCount : Byte
  deriving DecidableEq, Repr, Inhabited

/-- The parameters of R6 that a build may choose. The sync parameters have the widths of R7 item 2 as their
types (10, 6, 4 and 4 bits), so that item 2 holds of every value of this type. -/
structure Cfg where
  /-- `RATE_SET`, in stored order (R6, R7 item 1). -/
  rateSet : List Nat
  /-- `CLOCK_ROUNDING` (R6). -/
  clockRounding : Rounding
  /-- `H_SYNC_OFFSET`, 0..1023. -/
  hSyncOffset : BitVec 10
  /-- `H_SYNC_PULSE`, 0..63. -/
  hSyncPulse : BitVec 6
  /-- `V_SYNC_OFFSET`, 0..15. -/
  vSyncOffset : BitVec 4
  /-- `V_SYNC_PULSE`, 0..15. -/
  vSyncPulse : BitVec 4
  /-- `PROFILE` (R31). -/
  profile : Profile
  /-- `BASE`, the host-bus address of the register window (R50, D28). -/
  base : Nat
  deriving DecidableEq, Repr

/-- `BLOCK_LEN` (R6). -/
def blockLen : Nat := 128

/-- `HEADER`, the eight signature bytes (R6, R75). -/
def header : List Byte := [0x00, 0xFF, 0xFF, 0xFF, 0xFF, 0xFF, 0xFF, 0x00]

/-- `H_BLANK` (R6, R8). -/
def hBlank : Nat := 160

/-- `V_BLANK` (R6, R8). -/
def vBlank : Nat := 45

/-- `ACTIVE_MAX`, ENCODE's limit on both active counts (R6). -/
def activeMax : Nat := 4095

/-- DERIVE's limit on both active counts, the source's `u16` (R105, D24). -/
def deriveActiveMax : Nat := 65535

/-- `CLOCK_MAX` (R6). -/
def clockMax : Nat := 65535

/-- `CLOCK_UNIT_HZ` (R6). -/
def clockUnitHz : Nat := 10000

/-- `RATE_TABLE_MAX` (R6). -/
def rateTableMax : Nat := 32

/-- `RATE_SET`'s default (R6); every well-formed rate set contains it (R7 item 1). -/
def defaultRates : List Nat := [60, 120, 144, 240]

/-- OPEN in R6: no source gives the profile bytes (N1, N3). Nothing in Lean can evaluate this constant. -/
opaque Config.openProfile : Profile

/-- OPEN in R6 (N2). -/
opaque Config.openHSyncOffset : BitVec 10

/-- OPEN in R6 (N2). -/
opaque Config.openHSyncPulse : BitVec 6

/-- OPEN in R6 (N2). -/
opaque Config.openVSyncOffset : BitVec 4

/-- OPEN in R6 (N2). -/
opaque Config.openVSyncPulse : BitVec 4

/-- OPEN in R6 (D28). -/
opaque Config.openBase : Nat

/-- The configuration of the machine `State.reset` starts: R6's value or default where the table gives one, and
the OPEN parameters as the opaque constants above (notes/assumptions/2.md and 3.md). -/
def Config.built : Cfg where
  rateSet := defaultRates
  clockRounding := .nearestTiesEven
  hSyncOffset := Config.openHSyncOffset
  hSyncPulse := Config.openHSyncPulse
  vSyncOffset := Config.openVSyncOffset
  vSyncPulse := Config.openVSyncPulse
  profile := Config.openProfile
  base := Config.openBase

end Sys2Proof
end

