-- ==== Sys2Proof/Machine/State.lean ====
section
/-! DEFINITION. The state record of spec/10_state.md R20, the configuration it runs under, the host's side of the
bus, the reasons a step can stop, and the state after reset (R180). -/

namespace Sys2Proof.Machine

/-- `STATUS.CODE`'s values (R29, R160). The reserved codes 7..14 are never produced and have no constructor, so a
state that holds one cannot be written (I7). -/
inductive Code where
  | ok
  | unsupportedRefreshRate
  | fieldOverflow
  | lengthMismatch
  | headerMismatch
  | checksumMismatch
  | illegalCommand
  /-- `NONE`: no command since reset. -/
  | noCommand
  deriving DecidableEq, Repr

/-- `STATUS.FIELD`'s values (R29, R161). -/
inductive OverflowField where
  /-- 0: the result is no `FieldOverflow`. -/
  | noField
  | hActive
  | vActive
  | pixelClock
  deriving DecidableEq, Repr

/-- The D group (R28, R33), the result of DERIVE. -/
structure DGroup where
  hTotal : Word
  vTotal : Word
  pclk : BitVec 64
  clk10k : BitVec 64
  /-- `STATUS.D_CLK_FITS`, a member of the D group (R28, R29). -/
  clkFits : Bool
  deriving DecidableEq, Repr

/-- The U group (R28, R34), the result of UNPACK. -/
structure UGroup where
  clock10k : Word
  hact : Word
  hblank : Word
  vact : Word
  vblank : Word
  hso : Word
  hsp : Word
  vso : Word
  vsp : Word
  deriving DecidableEq, Repr

/-- The fault the model records, and the only one. -/
inductive Fault where
  /-- `BusError(addr)`: raised by a bus transaction that R56 rejects; `addr` is `BASE + off`. It is RECORDED in
  `State.faultLog` and the run goes on (R56, program P7), so no step stops with it. Safe: the transaction changes
  no state of the block. -/
  | busError (addr : Nat)
  deriving DecidableEq, Repr

/-- The reasons for which a step gives no meaning. -/
inductive Refusal where
  /-- Raised by an arm of `exec` whose command has no meaning yet; no arm does. Safe. -/
  | notModelled (mnemonic : String)
  /-- Raised by `step` when the configuration is not well-formed (R7: the model gives no meaning to any run under
  it). Safe. -/
  | illFormedConfiguration
  deriving DecidableEq, Repr

/-- The answer to one bus transaction. -/
inductive Response where
  /-- The value a read returns (R50, R57). -/
  | data (v : Word)
  /-- A write that completed (R61, R63). -/
  | written
  /-- The error response of a bus error (R56). -/
  | busError
  deriving DecidableEq, Repr

/-- The state. `CMD` holds no state (R35), and `STATUS[31:16]` reads as 0 (R29), so neither has a field. A result
group is `none` exactly while its valid flag is 0 (R20, R28): its members are then unspecified and cannot be
read. -/
structure State where
  /-- The configuration (R6): `RATE_COUNT`, `RATE_TABLE` (R32) and `PROFILE` (R31) are read from it. -/
  cfg : Cfg
  /-- `STATUS.CODE` (R29). -/
  code : Code
  /-- `STATUS.FIELD` (R29). -/
  field : OverflowField
  /-- `STATUS.LAST_OP` (R29). -/
  lastOp : BitVec 4
  /-- `INFO` (R30). -/
  info : Word
  /-- `ARG_HACT` (R22). -/
  argHact : Word
  /-- `ARG_VACT` (R23). -/
  argVact : Word
  /-- `ARG_RATE` (R24). -/
  argRate : Word
  /-- `IN_LEN` (R25). -/
  inLen : Word
  /-- `IN[0..127]` (R26). -/
  inBuf : Vector Byte 128
  /-- The OUT group, `OUT[0..127]` (R27). -/
  out : Option (Vector Byte 128)
  /-- The D group (R33). -/
  dGroup : Option DGroup
  /-- The U group (R34). -/
  uGroup : Option UGroup
  /-- The host's inputs not delivered yet, in delivery order (R61, R89). The model's own field. -/
  pending : List HostInput
  /-- The response to every transaction delivered so far, oldest first. The model's own field. -/
  responses : List Response
  /-- The run's fault log (R56), oldest first. -/
  faultLog : List Fault
  deriving DecidableEq, Repr

/-- The block right after reset (R180) under the configuration `c`, with no host input yet. -/
def State.resetWith (c : Cfg) : State where
  cfg := c
  code := .noCommand
  field := .noField
  lastOp := 0
  info := 0
  argHact := 0
  argVact := 0
  argRate := 0
  inLen := 0
  inBuf := Vector.replicate 128 0
  out := none
  dGroup := none
  uGroup := none
  pending := []
  responses := []
  faultLog := []

/-- The machine right after reset (R180). -/
def State.reset : State := State.resetWith Config.built

end Sys2Proof.Machine
end

