-- ==== Sys2Proof/Machine/Operands.lean ====
section
/-! DEFINITION. The functions on operands: the timing derivation (spec/40_derive.md R100 to R102, R11), the packer
and the checksum (spec/41_encode.md R120 to R125) and the unpacker (spec/43_unpack.md R150). Numbers are exact
naturals (R9); fields of the descriptor are bit vectors of their layout width (R80 to R86). -/

namespace Sys2Proof.Machine

/-- `total_h(h)` (R100). -/
def totalH (h : Nat) : Nat := h + hBlank

/-- `total_v(v)` (R100). -/
def totalV (v : Nat) : Nat := v + vBlank

/-- `pclk_hz(h, v, r)` (R101). -/
def pclkHz (h v r : Nat) : Nat := totalH h * totalV v * r

/-- `roundq(n, d, mode)` for positive `d` (R11). -/
def roundq (n d : Nat) : Rounding → Nat
  | .floor => n / d
  | .nearestTiesAway => if d ≤ 2 * (n % d) then n / d + 1 else n / d
  | .nearestTiesEven =>
    if d < 2 * (n % d) ∨ (2 * (n % d) = d ∧ (n / d) % 2 = 1) then n / d + 1 else n / d

/-- `clk10k(h, v, r)` (R102). -/
def clk10k (mode : Rounding) (h v r : Nat) : Nat := roundq (pclkHz h v r) clockUnitHz mode

/-- `sum(s)`: the natural-number sum of a byte sequence (R10). -/
def byteSum (l : List Byte) : Nat := (l.map (·.toNat)).sum

/-- `pack_clock(c)` (R120). -/
def packClock (c : BitVec 16) : List Byte := [c.extractLsb' 0 8, c.extractLsb' 8 8]

/-- `pack_pair(a, b)`: active `a` in the low nibble of the shared byte, blanking `b` in the high one (R121). -/
def packPair (a b : BitVec 12) : List Byte :=
  [a.extractLsb' 0 8, b.extractLsb' 0 8, b.extractLsb' 8 4 ++ a.extractLsb' 8 4]

/-- `pack_sync(o_h, p_h, o_v, p_v)` (R122). -/
def packSync (oh ph : BitVec 10) (ov pv : BitVec 6) : List Byte :=
  [oh.extractLsb' 0 8, ph.extractLsb' 0 8, ov.extractLsb' 0 4 ++ pv.extractLsb' 0 4,
    oh.extractLsb' 8 2 ++ ph.extractLsb' 8 2 ++ ov.extractLsb' 4 2 ++ pv.extractLsb' 4 2]

/-- The four sync bytes of a configuration, each parameter at its full layout width (R84, R123). -/
def syncBytes (c : Cfg) : List Byte :=
  packSync c.hSyncOffset (c.hSyncPulse.setWidth 10) (c.vSyncOffset.setWidth 6) (c.vSyncPulse.setWidth 6)

/-- DTD bytes 0..11, the packed fields of `build_dtd` (R123). -/
def dtdFields (c : Cfg) (h v clk : Nat) : List Byte :=
  packClock (BitVec.ofNat 16 clk) ++ packPair (BitVec.ofNat 12 h) (BitVec.ofNat 12 hBlank) ++
    packPair (BitVec.ofNat 12 v) (BitVec.ofNat 12 vBlank) ++ syncBytes c

/-- `build_dtd(h, v, c)` (R123). -/
def buildDtd (c : Cfg) (h v clk : Nat) : List Byte := dtdFields c h v clk ++ c.profile.dtdTail.toList

/-- Block bytes 0..53: the header and the nine profile fields before the DTD (R74, R124). -/
def bodyBefore (p : Profile) : List Byte :=
  header ++ p.mfr.toList ++ p.product.toList ++ p.serial.toList ++ p.date.toList ++ p.version.toList ++
    p.display.toList ++ p.color.toList ++ p.established.toList ++ p.standard.toList

/-- Block bytes 72..126: the profile fields after the DTD (R74, R124). -/
def bodyAfter (p : Profile) : List Byte :=
  p.nameDesc.toList ++ p.rangeDesc.toList ++ p.fillerDesc.toList ++ [p.extCount]

/-- `build_body(h, v, c)` (R124). -/
def buildBody (c : Cfg) (h v clk : Nat) : List Byte :=
  bodyBefore c.profile ++ buildDtd c h v clk ++ bodyAfter c.profile

/-- `checksum(body)` (R125). -/
def checksum (body : List Byte) : Byte := BitVec.ofNat 8 ((256 - byteSum body % 256) % 256)

/-- The body is 127 bytes long (R124). -/
theorem buildBody_length (c : Cfg) (h v clk : Nat) : (buildBody c h v clk).length = 127 := by
  simp [buildBody, bodyBefore, buildDtd, dtdFields, packClock, packPair, syncBytes, packSync, bodyAfter, header]

/-- The 128 bytes ENCODE writes: the body and its checksum (R126). -/
def outBlock (c : Cfg) (h v clk : Nat) : Vector Byte 128 :=
  ⟨(buildBody c h v clk ++ [checksum (buildBody c h v clk)]).toArray, by simp [buildBody_length]⟩

/-- DTD byte `j` of a block, block byte `54 + j` (R80). -/
def dtdByte (b : Vector Byte 128) (j : Fin 18) : Byte := b[54 + j.val]

/-- `unpack_clock(d)` (R150). -/
def unpackClock (d : Fin 18 → Byte) : BitVec 16 := d 1 ++ d 0

/-- `unpack_hact(d)` (R150). -/
def unpackHact (d : Fin 18 → Byte) : BitVec 12 := (d 4).extractLsb' 0 4 ++ d 2

/-- `unpack_hblank(d)` (R150). -/
def unpackHblank (d : Fin 18 → Byte) : BitVec 12 := (d 4).extractLsb' 4 4 ++ d 3

/-- `unpack_vact(d)` (R150). -/
def unpackVact (d : Fin 18 → Byte) : BitVec 12 := (d 7).extractLsb' 0 4 ++ d 5

/-- `unpack_vblank(d)` (R150). -/
def unpackVblank (d : Fin 18 → Byte) : BitVec 12 := (d 7).extractLsb' 4 4 ++ d 6

/-- `unpack_hso(d)` (R150). -/
def unpackHso (d : Fin 18 → Byte) : BitVec 10 := (d 11).extractLsb' 6 2 ++ d 8

/-- `unpack_hsp(d)` (R150). -/
def unpackHsp (d : Fin 18 → Byte) : BitVec 10 := (d 11).extractLsb' 4 2 ++ d 9

/-- `unpack_vso(d)` (R150). -/
def unpackVso (d : Fin 18 → Byte) : BitVec 6 := (d 11).extractLsb' 2 2 ++ (d 10).extractLsb' 4 4

/-- `unpack_vsp(d)` (R150). -/
def unpackVsp (d : Fin 18 → Byte) : BitVec 6 := (d 11).extractLsb' 0 2 ++ (d 10).extractLsb' 0 4

/-- The nine U registers of a DTD, each field zero-extended to 32 bits (R34, R151). -/
def unpackDtd (d : Fin 18 → Byte) : UGroup where
  clock10k := (unpackClock d).setWidth 32
  hact := (unpackHact d).setWidth 32
  hblank := (unpackHblank d).setWidth 32
  vact := (unpackVact d).setWidth 32
  vblank := (unpackVblank d).setWidth 32
  hso := (unpackHso d).setWidth 32
  hsp := (unpackHsp d).setWidth 32
  vso := (unpackVso d).setWidth 32
  vsp := (unpackVsp d).setWidth 32

end Sys2Proof.Machine
end

