-- ==== Sys2Proof/Machine/Ops.lean ====
section
/-! DEFINITION. The named operations over the state: one update per field, the end of a command in an error
(`raise`, R162) and in success (`complete`, R163), IllegalCommand (R164), reset as an input (R180), the bus error
(R56) and the buffer windows (R52). -/

namespace Sys2Proof.Machine

/-- `STATUS.CODE`, `STATUS.FIELD` and `INFO` are always written together (R162, R163, R164). -/
def State.setResult (s : State) (c : Code) (f : OverflowField) (i : Word) : State :=
  { s with code := c, field := f, info := i }

/-- `STATUS.LAST_OP <- op` (R72). -/
def State.setLastOp (s : State) (op : BitVec 4) : State := { s with lastOp := op }

/-- `ARG_HACT <- v` (R58). -/
def State.setArgHact (s : State) (v : Word) : State := { s with argHact := v }

/-- `ARG_VACT <- v` (R58). -/
def State.setArgVact (s : State) (v : Word) : State := { s with argVact := v }

/-- `ARG_RATE <- v` (R58). -/
def State.setArgRate (s : State) (v : Word) : State := { s with argRate := v }

/-- `IN_LEN <- v` (R58). -/
def State.setInLen (s : State) (v : Word) : State := { s with inLen := v }

/-- The IN buffer takes the bytes `b`. -/
def State.setInBuf (s : State) (b : Vector Byte 128) : State := { s with inBuf := b }

/-- The OUT group takes `o`; `none` is `OUT_VALID <- 0` (R28). -/
def State.setOut (s : State) (o : Option (Vector Byte 128)) : State := { s with out := o }

/-- The D group takes `d`; `none` is `D_VALID <- 0 ; D_CLK_FITS <- 0` (R28, R105). -/
def State.setD (s : State) (d : Option DGroup) : State := { s with dGroup := d }

/-- The U group takes `u`; `none` is `U_VALID <- 0` (R28). -/
def State.setU (s : State) (u : Option UGroup) : State := { s with uGroup := u }

/-- The host's inputs still to be delivered. -/
def State.setPending (s : State) (p : List HostInput) : State := { s with pending := p }

/-- The response to the transaction just delivered. -/
def State.pushResponse (s : State) (r : Response) : State := { s with responses := s.responses ++ [r] }

/-- One more entry of the fault log (R56). -/
def State.pushFault (s : State) (f : Fault) : State := { s with faultLog := s.faultLog ++ [f] }

/-- What an error hands to `raise`: its code, its `FIELD` and its `INFO` (R161). -/
structure CommandError where
  code : Code
  field : OverflowField
  info : Word
  deriving DecidableEq, Repr

/-- `raise E(field, info)`: THE ONE error entry of the block (R162). It writes `STATUS.CODE`, `STATUS.FIELD` and
`INFO`, and nothing else. There is no handler and nothing to return from (R169). -/
def State.raise (s : State) (e : CommandError) : State := s.setResult e.code e.field e.info

/-- `complete OK` (R163). -/
def State.complete (s : State) : State := s.setResult .ok .noField 0

/-- IllegalCommand (R164): `w` is the whole word written to `CMD`, `op` its bits 3:0. -/
def State.illegalCommand (s : State) (op : BitVec 4) (w : Word) : State :=
  (s.setLastOp op).raise { code := .illegalCommand, field := .noField, info := w }

/-- Reset of the block as an input (R180): every piece of the block's state takes its value after reset; the
configuration, the host's inputs and the run's logs are not the block's and stay. -/
def State.resetBlock (s : State) : State :=
  { State.resetWith s.cfg with pending := s.pending, responses := s.responses, faultLog := s.faultLog }

/-- A transaction at offset `off` is a bus error (R56): no state of the block changes, the host gets an error
response, and `BusError(BASE + off)` is recorded. -/
def State.busError (s : State) (off : BitVec 12) : State :=
  (s.pushResponse .busError).pushFault (.busError (s.cfg.base + off.toNat))

/-- Four bytes as one word, least-significant byte first (R52). -/
def wordOfBytes (b0 b1 b2 b3 : Byte) : Word := b3 ++ b2 ++ b1 ++ b0

/-- Word `k` of a 128-byte buffer as its window shows it (R52). -/
def bufWord (b : Vector Byte 128) (k : Fin 32) : Word :=
  wordOfBytes (b[4 * k.val]'(by omega)) (b[4 * k.val + 1]'(by omega))
    (b[4 * k.val + 2]'(by omega)) (b[4 * k.val + 3]'(by omega))

/-- A 128-byte buffer after a write of `v` to word `k` of its window (R52). -/
def setBufWord (b : Vector Byte 128) (k : Fin 32) (v : Word) : Vector Byte 128 :=
  (((b.set (4 * k.val) (v.extractLsb' 0 8) (by omega)).set (4 * k.val + 1) (v.extractLsb' 8 8) (by omega)).set
    (4 * k.val + 2) (v.extractLsb' 16 8) (by omega)).set (4 * k.val + 3) (v.extractLsb' 24 8) (by omega)

end Sys2Proof.Machine
end

