-- ==== Sys2Proof/Machine/Flags.lean ====
section
/-! DEFINITION. The status word (spec/10_state.md R29) and every check a command makes: the rate check (R104), the
limits (R105, R126), the three checks of a presented block (R141 to R143), and the first failing check of each
command, in the order of spec/60_exceptions.md R166. -/

namespace Sys2Proof.Machine

/-- The number of a code (R160). -/
def Code.bits : Code → BitVec 4
  | .ok => 0
  | .unsupportedRefreshRate => 1
  | .fieldOverflow => 2
  | .lengthMismatch => 3
  | .headerMismatch => 4
  | .checksumMismatch => 5
  | .illegalCommand => 6
  | .noCommand => 15

/-- The number of a field (R29, R161). -/
def OverflowField.bits : OverflowField → BitVec 4
  | .noField => 0
  | .hActive => 1
  | .vActive => 2
  | .pixelClock => 3

/-- `STATUS.D_CLK_FITS`: the D group's member, and 0 when `D_VALID = 0` (R29). -/
def State.dClkFits (s : State) : Bool :=
  match s.dGroup with
  | some d => d.clkFits
  | none => false

/-- The 32 bits a read of `STATUS` returns (R29), most significant field first: 31:16 reserved, `LAST_OP`,
`D_CLK_FITS`, `U_VALID`, `D_VALID`, `OUT_VALID`, `FIELD`, `CODE`. -/
def State.statusWord (s : State) : Word :=
  0#16 ++ s.lastOp ++ BitVec.ofBool s.dClkFits ++ BitVec.ofBool s.uGroup.isSome ++
    BitVec.ofBool s.dGroup.isSome ++ BitVec.ofBool s.out.isSome ++ s.field.bits ++ s.code.bits

/-- `rate_ok(r)`: `r` equals some entry of `RATE_SET`, compared at full width (R104). -/
def rateOk (c : Cfg) (r : Word) : Bool := c.rateSet.contains r.toNat

/-- `D_CLK10K ≤ 65535` (R29, R105). -/
def clkFits (c : Nat) : Bool := decide (c ≤ clockMax)

/-- `len_ok` (R141). -/
def State.lenOk (s : State) : Bool := decide (s.inLen.toNat = blockLen)

/-- `hdr_ok`: `IN[0..7] = HEADER` (R142). -/
def State.hdrOk (s : State) : Bool := decide (s.inBuf.toList.take 8 = header)

/-- `s = sum(IN[0..127]) mod 256` (R143). -/
def State.inSum (s : State) : Nat := byteSum s.inBuf.toList % 256

/-- DERIVE's first failing check (R105). -/
def deriveCheck (c : Cfg) (h v r : Word) : Option CommandError :=
  if ¬ rateOk c r then some { code := .unsupportedRefreshRate, field := .noField, info := r }
  else if deriveActiveMax < h.toNat then some { code := .fieldOverflow, field := .hActive, info := h }
  else if deriveActiveMax < v.toNat then some { code := .fieldOverflow, field := .vActive, info := v }
  else none

/-- ENCODE's first failing check (R126). -/
def encodeCheck (c : Cfg) (h v r : Word) : Option CommandError :=
  if ¬ rateOk c r then some { code := .unsupportedRefreshRate, field := .noField, info := r }
  else if activeMax < h.toNat then some { code := .fieldOverflow, field := .hActive, info := h }
  else if activeMax < v.toNat then some { code := .fieldOverflow, field := .vActive, info := v }
  else if clockMax < clk10k c.clockRounding h.toNat v.toNat r.toNat then
    some { code := .fieldOverflow, field := .pixelClock,
           info := BitVec.ofNat 32 (clk10k c.clockRounding h.toNat v.toNat r.toNat) }
  else none

/-- The first failing check of a presented block, for VALIDATE and UNPACK alike (R140, R151). -/
def State.inputCheck (s : State) : Option CommandError :=
  if ¬ s.lenOk then some { code := .lengthMismatch, field := .noField, info := s.inLen }
  else if ¬ s.hdrOk then some { code := .headerMismatch, field := .noField, info := 0 }
  else if s.inSum ≠ 0 then some { code := .checksumMismatch, field := .noField, info := BitVec.ofNat 32 s.inSum }
  else none

end Sys2Proof.Machine
end

