-- ==== Sys2Proof/Machine/Derive.lean ====
section
/-! DEFINITION. The DERIVE command (spec/40_derive.md R105). -/

namespace Sys2Proof.Machine

/-- The D group DERIVE writes for accepted operands (R33, R105). -/
def derivedGroup (mode : Rounding) (h v r : Nat) : DGroup where
  hTotal := BitVec.ofNat 32 (totalH h)
  vTotal := BitVec.ofNat 32 (totalV v)
  pclk := BitVec.ofNat 64 (pclkHz h v r)
  clk10k := BitVec.ofNat 64 (clk10k mode h v r)
  clkFits := clkFits (clk10k mode h v r)

/-- DERIVE (R105): `LAST_OP` is written and the D group invalidated first (R72, R28); then the first failing check is
raised, or the group is written, becomes valid and the command completes. -/
def execDerive (s : State) : Host.Outcome State Fault Refusal :=
  let entered := (s.setLastOp (opcode .derive)).setD none
  match deriveCheck s.cfg s.argHact s.argVact s.argRate with
  | some e => .next (entered.raise e)
  | none =>
    .next (entered.setD (some
      (derivedGroup s.cfg.clockRounding s.argHact.toNat s.argVact.toNat s.argRate.toNat))).complete

end Sys2Proof.Machine
end

