-- ==== Sys2Proof/Machine/Encode.lean ====
section
/-! DEFINITION. The ENCODE command (spec/41_encode.md R126). -/

namespace Sys2Proof.Machine

/-- ENCODE (R126): `LAST_OP` is written and the OUT group invalidated first (R72, R28); then the first failing check
is raised, or the 128 bytes are written, the group becomes valid and the command completes. -/
def execEncode (s : State) : Host.Outcome State Fault Refusal :=
  let entered := (s.setLastOp (opcode .encode)).setOut none
  match encodeCheck s.cfg s.argHact s.argVact s.argRate with
  | some e => .next (entered.raise e)
  | none =>
    let h := s.argHact.toNat
    let v := s.argVact.toNat
    let c := clk10k s.cfg.clockRounding h v s.argRate.toNat
    .next (entered.setOut (some (outBlock s.cfg h v c))).complete

end Sys2Proof.Machine
end

