-- ==== Sys2Proof/Machine/Unpack.lean ====
section
/-! DEFINITION. The UNPACK command (spec/43_unpack.md R151). -/

namespace Sys2Proof.Machine

/-- UNPACK (R151): `LAST_OP` is written and the U group invalidated first (R72, R28); then the first failing check of
the presented block is raised, or its DTD is unpacked, the group becomes valid and the command completes. -/
def execUnpack (s : State) : Host.Outcome State Fault Refusal :=
  let entered := (s.setLastOp (opcode .unpack)).setU none
  match s.inputCheck with
  | some e => .next (entered.raise e)
  | none => .next (entered.setU (some (unpackDtd (dtdByte s.inBuf)))).complete

end Sys2Proof.Machine
end

