-- ==== Sys2Proof/Machine/Validate.lean ====
section
/-! DEFINITION. The VALIDATE command (spec/42_validate.md R140). -/

namespace Sys2Proof.Machine

/-- VALIDATE (R140): it owns no result group, and writes only `STATUS.CODE`, `FIELD`, `LAST_OP` and `INFO`. -/
def execValidate (s : State) : Host.Outcome State Fault Refusal :=
  let entered := s.setLastOp (opcode .validate)
  match s.inputCheck with
  | some e => .next (entered.raise e)
  | none => .next entered.complete

end Sys2Proof.Machine
end

