-- ==== Sys2Proof/Machine/Dispatch.lean ====
section
/-! DEFINITION. One arm per command of spec/opcode_table.json. -/

namespace Sys2Proof.Machine

/-- What a command does to the state when its word is written to `CMD` (R63, R72). -/
def exec (i : Instr) (s : State) : Host.Outcome State Fault Refusal :=
  match i with
  | .encode => Sys2Proof.Machine.execEncode s
  | .validate => Sys2Proof.Machine.execValidate s
  | .derive => Sys2Proof.Machine.execDerive s
  | .unpack => Sys2Proof.Machine.execUnpack s

end Sys2Proof.Machine
end

