-- ==== Sys2Proof/WellFormed.lean ====
section
/-! DEFINITION. When a configuration is well-formed (spec/00_scope.md R7). Items 2, 3 and 4 of R7 hold of every
`Cfg` by its type; item 1, on the rate set, is checked here. A command has no field that could be ill-formed
(R70): every `Instr` is well-formed, and the words that are no command are the decoder's to reject. -/

namespace Sys2Proof

/-- R7 item 1: between 4 and `RATE_TABLE_MAX` entries. -/
def Cfg.rateCountOk (c : Cfg) : Bool :=
  decide (4 ≤ c.rateSet.length ∧ c.rateSet.length ≤ rateTableMax)

/-- R7 item 1: the entries are distinct and stored in ascending order. -/
def Cfg.rateOrderOk (c : Cfg) : Bool :=
  decide (c.rateSet.Pairwise (· < ·))

/-- R7 item 1: each entry is in 1..65535. -/
def Cfg.rateRangeOk (c : Cfg) : Bool :=
  c.rateSet.all fun r => decide (1 ≤ r ∧ r ≤ 65535)

/-- R7 item 1: the set contains 60, 120, 144 and 240. -/
def Cfg.rateBaseOk (c : Cfg) : Bool :=
  defaultRates.all fun r => c.rateSet.contains r

/-- R7: the configuration is well-formed. -/
def Cfg.wellFormed (c : Cfg) : Bool :=
  c.rateCountOk && c.rateOrderOk && c.rateRangeOk && c.rateBaseOk

end Sys2Proof
end

