-- ==== Sys2Proof/Machine/Bus.lean ====
section
/-! DEFINITION. The host bus (spec/20_memory.md): the register map (R51), what a read returns
and a write does (R52, R57, R58), the bus errors (R54 to R56), the write to `CMD` that runs a command (R63, R72,
R167), and the delivery of the host's next input (R61). -/

namespace Sys2Proof.Machine

/-- The offset of a register in the window (R51). -/
def regOffset : Reg → Nat
  | .cmd => 0x000
  | .status => 0x004
  | .info => 0x008
  | .argHact => 0x00C
  | .argVact => 0x010
  | .argRate => 0x014
  | .inLen => 0x018
  | .rateCount => 0x01C
  | .dHtotal => 0x020
  | .dVtotal => 0x024
  | .dPclkLo => 0x028
  | .dPclkHi => 0x02C
  | .dClk10kLo => 0x030
  | .dClk10kHi => 0x034
  | .uClock10k => 0x040
  | .uHact => 0x044
  | .uHblank => 0x048
  | .uVact => 0x04C
  | .uVblank => 0x050
  | .uHso => 0x054
  | .uHsp => 0x058
  | .uVso => 0x05C
  | .uVsp => 0x060
  | .rateTable i => 0x080 + 4 * i.val
  | .outW k => 0x100 + 4 * k.val
  | .inW k => 0x200 + 4 * k.val

/-- The rows of the register map that name one register each (R51), by the offset the map gives. -/
def namedRegs : List (Nat × Reg) :=
  [(0x000, .cmd), (0x004, .status), (0x008, .info), (0x00C, .argHact), (0x010, .argVact), (0x014, .argRate),
   (0x018, .inLen), (0x01C, .rateCount), (0x020, .dHtotal), (0x024, .dVtotal), (0x028, .dPclkLo),
   (0x02C, .dPclkHi), (0x030, .dClk10kLo), (0x034, .dClk10kHi), (0x040, .uClock10k), (0x044, .uHact),
   (0x048, .uHblank), (0x04C, .uVact), (0x050, .uVblank), (0x054, .uHso), (0x058, .uHsp), (0x05C, .uVso),
   (0x060, .uVsp)]

/-- The index of the word at offset `n` in an array of 32 words that starts at offset `start`, if it has one. -/
def wordIndex (start n : Nat) : Option (Fin 32) :=
  if h : start ≤ n ∧ n < start + 128 ∧ (n - start) % 4 = 0 then some ⟨(n - start) / 4, by omega⟩ else none

/-- The register mapped at an offset; `none` is unmapped (R51). -/
def regAt (off : BitVec 12) : Option Reg :=
  match namedRegs.find? (fun p => p.1 == off.toNat) with
  | some p => some p.2
  | none =>
    match wordIndex 0x080 off.toNat, wordIndex 0x100 off.toNat, wordIndex 0x200 off.toNat with
    | some i, _, _ => some (.rateTable i)
    | none, some k, _ => some (.outW k)
    | none, none, some k => some (.inW k)
    | none, none, none => none

/-- The value a read of a register returns (R51, R52, R57); `none` exactly for a register of an invalid result group
(R56 step 5). A read of `CMD` returns 0 (R35). -/
def State.readReg (s : State) : Reg → Option Word
  | .cmd => some 0
  | .status => some s.statusWord
  | .info => some s.info
  | .argHact => some s.argHact
  | .argVact => some s.argVact
  | .argRate => some s.argRate
  | .inLen => some s.inLen
  | .rateCount => some (BitVec.ofNat 32 s.cfg.rateSet.length)
  | .dHtotal => s.dGroup.map (·.hTotal)
  | .dVtotal => s.dGroup.map (·.vTotal)
  | .dPclkLo => s.dGroup.map (·.pclk.extractLsb' 0 32)
  | .dPclkHi => s.dGroup.map (·.pclk.extractLsb' 32 32)
  | .dClk10kLo => s.dGroup.map (·.clk10k.extractLsb' 0 32)
  | .dClk10kHi => s.dGroup.map (·.clk10k.extractLsb' 32 32)
  | .uClock10k => s.uGroup.map (·.clock10k)
  | .uHact => s.uGroup.map (·.hact)
  | .uHblank => s.uGroup.map (·.hblank)
  | .uVact => s.uGroup.map (·.vact)
  | .uVblank => s.uGroup.map (·.vblank)
  | .uHso => s.uGroup.map (·.hso)
  | .uHsp => s.uGroup.map (·.hsp)
  | .uVso => s.uGroup.map (·.vso)
  | .uVsp => s.uGroup.map (·.vsp)
  | .rateTable i => some (BitVec.ofNat 32 (s.cfg.rateSet.getD i.val 0))
  | .outW k => s.out.map fun b => bufWord b k
  | .inW k => some (bufWord s.inBuf k)

/-- The command a write of `w` to `CMD` runs (R35, R63, R72). -/
def runCommand (w : Word) (s : State) : Host.Outcome State Fault Refusal :=
  match decode w with
  | .command i => exec i s
  | .reservedBits => .next (s.illegalCommand (opField w) w)
  | .reservedOpcode => .next (s.illegalCommand (opField w) w)

/-- What a write of `v` to a register does (R58); `none` for a register of access `R` or `R(G)` (R56 step 4). -/
def writeReg (r : Reg) (v : Word) (s : State) : Option (Host.Outcome State Fault Refusal) :=
  match r with
  | .cmd => some (runCommand v s)
  | .argHact => some (.next (s.setArgHact v))
  | .argVact => some (.next (s.setArgVact v))
  | .argRate => some (.next (s.setArgRate v))
  | .inLen => some (.next (s.setInLen v))
  | .inW k => some (.next (s.setInBuf (setBufWord s.inBuf k v)))
  | .status | .info | .rateCount => none
  | .dHtotal | .dVtotal | .dPclkLo | .dPclkHi | .dClk10kLo | .dClk10kHi => none
  | .uClock10k | .uHact | .uHblank | .uVact | .uVblank | .uHso | .uHsp | .uVso | .uVsp => none
  | .rateTable _ | .outW _ => none

/-- The register an access of size `n` at offset `off` reaches: the size is 4 (R55), the offset is aligned (R54) and
mapped (R51); the first three steps of R56, in its order. -/
def busTarget (off : BitVec 12) (n : Nat) : Option Reg :=
  if n ≠ 4 then none
  else if off.toNat % 4 ≠ 0 then none
  else regAt off

/-- `MemRead(BASE + off, n)` (R50, R56, R57). -/
def deliverRead (off : BitVec 12) (n : Nat) (s : State) : Host.Outcome State Fault Refusal :=
  match (busTarget off n).bind s.readReg with
  | some v => .next (s.pushResponse (.data v))
  | none => .next (s.busError off)

/-- A write that completed is answered; the reason of a stop is passed on. -/
def answerWrite : Host.Outcome State Fault Refusal → Host.Outcome State Fault Refusal
  | .next t => .next (t.pushResponse .written)
  | .fault f => .fault f
  | .refused r => .refused r

/-- `MemWrite(BASE + off, n, v)` (R50, R56, R58). -/
def deliverWrite (off : BitVec 12) (n : Nat) (v : Word) (s : State) : Host.Outcome State Fault Refusal :=
  match (busTarget off n).bind fun r => writeReg r v s with
  | some o => answerWrite o
  | none => .next (s.busError off)

/-- The effect of one host input (R61, R180). -/
def deliver (t : HostInput) (s : State) : Host.Outcome State Fault Refusal :=
  match t with
  | .read off n => deliverRead off n s
  | .write off n v => deliverWrite off n v s
  | .reset => .next s.resetBlock

/-- The block's one step. Under an ill-formed configuration no run has a meaning (R7). The block acts only on an input
of the host (R13): the next one in delivery order takes effect whole (R61, R63); while there is none, nothing
changes. -/
def deliverNext (s : State) : Host.Outcome State Fault Refusal :=
  if s.cfg.wellFormed then
    match s.pending with
    | [] => .next s
    | t :: rest => deliver t (s.setPending rest)
  else .refused .illFormedConfiguration

/-- The host's write of the word `w` to `CMD`, as its next input (R35, R87). -/
def commandWrite (w : Word) : HostInput := .write (BitVec.ofNat 12 (regOffset .cmd)) 4 w

end Sys2Proof.Machine
end

