-- ==== Sys2Proof/Machine/Step.lean ====
section
/-! DEFINITION. One step of the machine, and the placing of a command word as the host's next input. -/

namespace Sys2Proof.Machine

/-- One step: the host's next input is delivered (R13, R61). -/
def step : State → Host.Outcome State Fault Refusal := fun s => deliverNext s

/-- `s` with the host's write of the table word `w` to `CMD` as its next input (notes/assumptions/5.md). -/
def State.withFetchWord (s : State) (nbits w : Nat) : State :=
  s.setPending (commandWrite (tableWord nbits w) :: s.pending)

end Sys2Proof.Machine
end

