-- ==== Sys2Proof/Machine/Assembly.lean ====
section
/-! DEFINITION. How host programs are written (spec/30_encoding.md R87 to R89): the three host statements, the
pseudo-instructions with their expansions into bus transactions, and the triples a program is encoded as. -/

namespace Sys2Proof.Machine

/-- `wr REG, value` (R87). -/
def wr (r : Reg) (v : Word) : HostInput := .write (BitVec.ofNat 12 (regOffset r)) 4 v

/-- `rd REG -> name` (R87); the name is the host's. -/
def rd (r : Reg) : HostInput := .read (BitVec.ofNat 12 (regOffset r)) 4

/-- `wr @0xNNN, value` (R87): a write at a raw offset. -/
def wrAt (off : BitVec 12) (v : Word) : HostInput := .write off 4 v

/-- `rd @0xNNN -> name` (R87): a read at a raw offset. -/
def rdAt (off : BitVec 12) : HostInput := .read off 4

/-- `cmd OP` (R87). -/
def cmd (i : Instr) : HostInput := wr .cmd (encode i)

/-- The pseudo-instructions (R88). `copyOutIn t` carries the words `t` that the host binds from its reads of `OUT_W`,
since host-side names are no part of the block (R87). -/
inductive Pseudo where
  | encode (h v r : Word)
  | derive (h v r : Word)
  | loadIn (b : Vector Byte 128) (len : Word)
  | copyOutIn (t : Vector Word 32)
  | validate
  | unpack
  | status
  deriving DecidableEq, Repr

/-- The expansion of a pseudo-instruction (R88). -/
def expand : Pseudo → List HostInput
  | .encode h v r => [wr .argHact h, wr .argVact v, wr .argRate r, cmd .encode]
  | .derive h v r => [wr .argHact h, wr .argVact v, wr .argRate r, cmd .derive]
  | .loadIn b len => ((List.finRange 32).map fun k => wr (.inW k) (bufWord b k)) ++ [wr .inLen len]
  | .copyOutIn t => ((List.finRange 32).flatMap fun k => [rd (.outW k), wr (.inW k) t[k]]) ++ [wr .inLen 128]
  | .validate => [cmd .validate]
  | .unpack => [cmd .unpack]
  | .status => [rd .status]

/-- `dir` of a triple (R89). -/
inductive Dir where
  | w | r
  deriving DecidableEq, Repr

/-- A transaction as a host program's encoding lists it: `(dir, off, data)`, with no data for a read (R89). -/
structure Triple where
  dir : Dir
  off : BitVec 12
  data : Option Word
  deriving DecidableEq, Repr

/-- The triple of a bus transaction (R89). The access size is no part of a triple, so every transaction of R50 has one,
whatever its size (notes/assumptions/20.md); a reset is no bus transaction. -/
def tripleOf : HostInput → Option Triple
  | .read off _ => some ⟨.r, off, none⟩
  | .write off _ v => some ⟨.w, off, some v⟩
  | .reset => none

/-- The encoding of a host program: the triples of its bus transactions, in order (R89). -/
def programTriples (p : List HostInput) : List Triple := p.filterMap tripleOf

end Sys2Proof.Machine
end

