-- ==== Sys2Proof/Safety.lean ====
section
/-! DEFINITION. The terms claims use: the access codes and the mapped offsets of the register map (spec/20_memory.md
R51), the five conditions of a bus error (R56), and the invariants of the block: what the result registers
(spec/60_exceptions.md R160, R161), the OUT group (spec/41_encode.md R127), the D group (spec/40_derive.md R105) and
the U group (spec/10_state.md R34) hold. -/

namespace Sys2Proof.Machine

/-- The three result groups (R28). -/
inductive Group where
  | out | d | u
  deriving DecidableEq, Repr

/-- The access codes of the register map (R51): `W`, `R`, `RW` and `R(G)`. -/
inductive Access where
  | w | r | rw
  | rGroup (g : Group)
  deriving DecidableEq, Repr

/-- The access code of a register (R51). -/
def regAccess : Reg → Access
  | .cmd => .w
  | .status => .r
  | .info => .r
  | .argHact => .rw
  | .argVact => .rw
  | .argRate => .rw
  | .inLen => .rw
  | .rateCount => .r
  | .dHtotal => .rGroup .d
  | .dVtotal => .rGroup .d
  | .dPclkLo => .rGroup .d
  | .dPclkHi => .rGroup .d
  | .dClk10kLo => .rGroup .d
  | .dClk10kHi => .rGroup .d
  | .uClock10k => .rGroup .u
  | .uHact => .rGroup .u
  | .uHblank => .rGroup .u
  | .uVact => .rGroup .u
  | .uVblank => .rGroup .u
  | .uHso => .rGroup .u
  | .uHsp => .rGroup .u
  | .uVso => .rGroup .u
  | .uVsp => .rGroup .u
  | .rateTable _ => .r
  | .outW _ => .rGroup .out
  | .inW _ => .rw

/-- A result group's valid flag (R28, R29). -/
def State.groupValid (s : State) : Group → Bool
  | .out => s.out.isSome
  | .d => s.dGroup.isSome
  | .u => s.uGroup.isSome

/-- The mapped offsets of the window, as the register map lists them (R51): word-aligned, and in none of the gaps
0x038..0x03C, 0x064..0x07C, 0x180..0x1FC and 0x280..0xFFC. -/
def offsetMapped (off : Nat) : Prop :=
  off % 4 = 0 ∧ (off ≤ 0x034 ∨ (0x040 ≤ off ∧ off ≤ 0x060) ∨ (0x080 ≤ off ∧ off ≤ 0x17C) ∨
    (0x200 ≤ off ∧ off ≤ 0x27C))

/-- The first three conditions of a bus error (R56): the size, the alignment, an unmapped offset. -/
def accessRejected (off : BitVec 12) (n : Nat) : Prop :=
  n ≠ 4 ∨ off.toNat % 4 ≠ 0 ∨ ¬ offsetMapped off.toNat

/-- A read is a bus error (R56, conditions 1 to 3 and 5). -/
def State.readFaults (s : State) (off : BitVec 12) (n : Nat) : Prop :=
  accessRejected off n ∨
    ∃ r g, regOffset r = off.toNat ∧ regAccess r = .rGroup g ∧ s.groupValid g = false

/-- A write is a bus error (R56, conditions 1 to 4). -/
def writeFaults (off : BitVec 12) (n : Nat) : Prop :=
  accessRejected off n ∨
    ∃ r, regOffset r = off.toNat ∧ (regAccess r = .r ∨ ∃ g, regAccess r = .rGroup g)

/-- The state after a bus error at `off` (R56): no state of the block changes, the host gets an error response and
the run's fault log gets `BusError(BASE + off)`. -/
def State.afterBusError (s : State) (off : BitVec 12) : State :=
  { s with responses := s.responses ++ [.busError],
           faultLog := s.faultLog ++ [.busError (s.cfg.base + off.toNat)] }

/-- `sum(IN[0..127])` written as a sum over the byte positions (R143). -/
def blockSum (b : Vector Byte 128) : Nat := ∑ i : Fin 128, b[i.val].toNat

/-- `b[0..7] = HEADER` (R75, R142), byte by byte. -/
def hasHeader (b : Vector Byte 128) : Prop := ∀ i : Fin 8, b[i.val] = if i.val = 0 ∨ i.val = 7 then 0x00 else 0xFF

/-- The three conditions of a valid block: the length (R141), the header (R142), the checksum (R143). -/
def State.inputValid (s : State) : Prop :=
  s.inLen = 128 ∧ hasHeader s.inBuf ∧ blockSum s.inBuf % 256 = 0

/-- Every byte of a block outside the packed fields 54..65 and the checksum 127 is the one the profile and the header
fix (R31, R74, R129). -/
def profileBytes (p : Profile) (b : Vector Byte 128) : Prop :=
  (b.toList.drop 8).take 46 =
      p.mfr.toList ++ p.product.toList ++ p.serial.toList ++ p.date.toList ++ p.version.toList ++ p.display.toList ++
        p.color.toList ++ p.established.toList ++ p.standard.toList ∧
    (b.toList.drop 66).take 61 =
      p.dtdTail.toList ++ p.nameDesc.toList ++ p.rangeDesc.toList ++ p.fillerDesc.toList ++ [p.extCount]

/-- What `STATUS.CODE`, `STATUS.FIELD`, `STATUS.LAST_OP` and `INFO` say together (R160, R161, R28): which commands
raise each code, the `FIELD` and `INFO` that go with it, and the valid flag the command left. -/
def State.resultInv (s : State) : Prop :=
  match s.code with
  | .noCommand =>
    s.field = .noField ∧ s.info = 0 ∧ s.lastOp = 0 ∧ s.out = none ∧ s.dGroup = none ∧ s.uGroup = none
  | .ok =>
    s.field = .noField ∧ s.info = 0 ∧
      ((s.lastOp = 1 ∧ s.out.isSome) ∨ s.lastOp = 2 ∨ (s.lastOp = 3 ∧ s.dGroup.isSome) ∨
        (s.lastOp = 4 ∧ s.uGroup.isSome))
  | .unsupportedRefreshRate =>
    s.field = .noField ∧ s.info.toNat ∉ s.cfg.rateSet ∧
      ((s.lastOp = 1 ∧ s.out = none) ∨ (s.lastOp = 3 ∧ s.dGroup = none))
  | .fieldOverflow =>
    (s.field = .hActive ∨ s.field = .vActive) ∧
        ((s.lastOp = 1 ∧ s.out = none ∧ 4095 < s.info.toNat) ∨
          (s.lastOp = 3 ∧ s.dGroup = none ∧ 65535 < s.info.toNat)) ∨
      s.field = .pixelClock ∧ s.lastOp = 1 ∧ s.out = none ∧ 65535 < s.info.toNat
  | .lengthMismatch =>
    s.field = .noField ∧ s.info ≠ 128 ∧ (s.lastOp = 2 ∨ (s.lastOp = 4 ∧ s.uGroup = none))
  | .headerMismatch =>
    s.field = .noField ∧ s.info = 0 ∧ (s.lastOp = 2 ∨ (s.lastOp = 4 ∧ s.uGroup = none))
  | .checksumMismatch =>
    s.field = .noField ∧ 1 ≤ s.info.toNat ∧ s.info.toNat ≤ 255 ∧
      (s.lastOp = 2 ∨ (s.lastOp = 4 ∧ s.uGroup = none))
  | .illegalCommand =>
    s.field = .noField ∧ s.lastOp = s.info.extractLsb' 0 4 ∧
      (s.info.extractLsb' 4 28 ≠ 0 ∨ s.lastOp = 0 ∨ 4 < s.lastOp.toNat)

/-- A valid OUT group is a descriptor that passes the three checks, with the profile's bytes in their places
(R127, R129). -/
def State.outInv (s : State) : Prop :=
  ∀ b, s.out = some b → hasHeader b ∧ blockSum b % 256 = 0 ∧ profileBytes s.cfg.profile b

/-- A valid D group holds the exact parameters of some accepted mode, none of them wrapped (R33, R105). -/
def State.dInv (s : State) : Prop :=
  ∀ d, s.dGroup = some d →
    ∃ h v r : Nat, h ≤ 65535 ∧ v ≤ 65535 ∧ r ∈ s.cfg.rateSet ∧ d.hTotal.toNat = h + 160 ∧ d.vTotal.toNat = v + 45 ∧
      d.pclk.toNat = (h + 160) * (v + 45) * r ∧
      d.clk10k.toNat = roundq ((h + 160) * (v + 45) * r) 10000 s.cfg.clockRounding ∧
      (d.clkFits = true ↔ d.clk10k.toNat ≤ 65535)

/-- Every register of a valid U group is zero above its field's width (R34). -/
def State.uInv (s : State) : Prop :=
  ∀ u, s.uGroup = some u →
    u.clock10k.toNat < 65536 ∧ u.hact.toNat < 4096 ∧ u.hblank.toNat < 4096 ∧ u.vact.toNat < 4096 ∧
      u.vblank.toNat < 4096 ∧ u.hso.toNat < 1024 ∧ u.hsp.toNat < 1024 ∧ u.vso.toNat < 64 ∧ u.vsp.toNat < 64

/-- A 4-byte read of offset `off` answers `v` and changes nothing else, whatever the host sends next (R50, R57). -/
def State.reads (s : State) (off : Nat) (v : Word) : Prop :=
  ∀ rest, step { s with pending := .read (BitVec.ofNat 12 off) 4 :: rest } =
    .next { s with pending := rest, responses := s.responses ++ [.data v] }

/-- A 4-byte read of offset `off` is a bus error, whatever the host sends next (R56). -/
def State.readIsBusError (s : State) (off : Nat) : Prop :=
  ∀ rest, step { s with pending := .read (BitVec.ofNat 12 off) 4 :: rest } =
    .next ({ s with pending := rest }.afterBusError (BitVec.ofNat 12 off))

/-- The state after a command of opcode `op` that ended with this code, field and `INFO`; the result groups and
everything else as in `s` (R162, R163). -/
def State.withResult (s : State) (op : BitVec 4) (c : Code) (f : OverflowField) (i : Word) : State :=
  { s with lastOp := op, code := c, field := f, info := i }

end Sys2Proof.Machine
end

