-- ==== Sys2Proof/Certificates/Slice0/Obligations.lean ====
section
/-! DEFINITION. The statements for the provers, each formalising the rules of spec/ its docstring names. -/

open Sys2Proof Sys2Proof.Machine

/-! ### The step, the command word and the configuration -/

/-- R63, R72: a write of a command's word to `CMD` runs that command whole, in one step, on the state as it stands,
and the write is then answered.
The response is the model's record (notes/assumptions/8.md). -/
def Obligations.StepRunsTheDecodedCommand : Prop :=
  ∀ (s : State) (w : Word) (i : Instr) (rest : List HostInput),
    s.cfg.wellFormed = true → s.pending = .write 0x000 4 w :: rest → decode w = .command i →
      ∃ t, exec i { s with pending := rest } = .next t ∧
        step s = .next { t with responses := t.responses ++ [.written] }

/-- R164: every word that is none of the four commands, whether by its reserved bits or its opcode, is IllegalCommand:
it writes the four result fields and nothing else of the block.
The `responses` entry is the model's record of the completed write (notes/assumptions/8.md). -/
def Obligations.IllegalWordsChangeOnlyTheResult : Prop :=
  ∀ (s : State) (w : Word) (rest : List HostInput),
    s.cfg.wellFormed = true → s.pending = .write 0x000 4 w :: rest →
      (w.extractLsb' 4 28 ≠ 0 ∨ w.extractLsb' 0 4 ∉ [1#4, 2#4, 3#4, 4#4]) →
        step s = .next { s with
          lastOp := w.extractLsb' 0 4, code := .illegalCommand, field := .noField, info := w,
          pending := rest, responses := s.responses ++ [.written] }

/-- R71: a word selects a command exactly if it is that command's full word, and the four full words are 1, 2, 3
and 4. -/
def Obligations.OnlyTheFourWordsAreCommands : Prop :=
  (∀ (w : Word) (i : Instr), decode w = .command i ↔ w = encode i) ∧
    encode .encode = 0x00000001 ∧ encode .validate = 0x00000002 ∧ encode .derive = 0x00000003 ∧
    encode .unpack = 0x00000004

/-- R71, R72: the words of the opcode map, and words that differ from them in one field, decode as the map says. -/
def Obligations.SpecWordsDecode : Prop :=
  decode 0x00000001 = .command .encode ∧ decode 0x00000002 = .command .validate ∧
    decode 0x00000003 = .command .derive ∧ decode 0x00000004 = .command .unpack ∧
    decode 0x00000000 = .reservedOpcode ∧ decode 0x00000005 = .reservedOpcode ∧ decode 0x0000000F = .reservedOpcode ∧
    decode 0x00000010 = .reservedBits ∧ decode 0x00000011 = .reservedBits ∧ decode 0x80000002 = .reservedBits

/-- R51: the register map read in both directions. An offset maps to a register exactly if it is that register's
offset, so no two registers share one, and the offsets that map to none are exactly the gaps the map lists. -/
def Obligations.RegisterMapIsOneToOne : Prop :=
  ∀ off : BitVec 12,
    (∀ r, regAt off = some r ↔ regOffset r = off.toNat) ∧ (regAt off = none ↔ ¬ offsetMapped off.toNat)

/-- R7: a configuration is well-formed exactly if its rate set meets item 1 (the sync limits of item 2, the profile
lengths of item 3 and the three rounding values of item 4 hold of every configuration); under a well-formed one every
step answers a next state, under any other one the model refuses. That the step is where the refusal stands is the
model's choice (notes/assumptions/4.md); that it answers a next state rests on notes/assumptions/6.md for a step with
no input and on notes/assumptions/7.md for a bus error. -/
def Obligations.OnlyWellFormedConfigurationsRun : Prop :=
  ∀ s : State,
    (s.cfg.wellFormed = true ↔
      4 ≤ s.cfg.rateSet.length ∧ s.cfg.rateSet.length ≤ 32 ∧ s.cfg.rateSet.Nodup ∧
        s.cfg.rateSet.Pairwise (· ≤ ·) ∧ (∀ r ∈ s.cfg.rateSet, 1 ≤ r ∧ r ≤ 65535) ∧
        60 ∈ s.cfg.rateSet ∧ 120 ∈ s.cfg.rateSet ∧ 144 ∈ s.cfg.rateSet ∧ 240 ∈ s.cfg.rateSet) ∧
    (s.cfg.hSyncOffset.toNat ≤ 1023 ∧ s.cfg.hSyncPulse.toNat ≤ 63 ∧ s.cfg.vSyncOffset.toNat ≤ 15 ∧
      s.cfg.vSyncPulse.toNat ≤ 15) ∧
    (∀ p : Profile, p = s.cfg.profile →
      [p.mfr.toList, p.product.toList, p.serial.toList, p.date.toList, p.version.toList, p.display.toList,
        p.color.toList, p.established.toList, p.standard.toList, p.dtdTail.toList, p.nameDesc.toList,
        p.rangeDesc.toList, p.fillerDesc.toList, [p.extCount]].map List.length =
        [2, 2, 4, 2, 2, 5, 10, 3, 16, 6, 18, 18, 18, 1]) ∧
    s.cfg.clockRounding ∈ [.nearestTiesEven, .nearestTiesAway, .floor] ∧
    (s.cfg.wellFormed = true → ∃ t, step s = .next t) ∧
    (s.cfg.wellFormed = false → step s = .refused .illFormedConfiguration)

/-- R31, R183: the configuration is fixed when the block is built; no step changes it. -/
def Obligations.NoStepChangesTheConfiguration : Prop :=
  ∀ s t : State, step s = .next t → t.cfg = s.cfg

/-! ### The commands -/

/-- R126: the word 0x00000001 is ENCODE, and this is ENCODE's whole outcome. On accepted operands it answers a state
in which OUT holds a block with the header, the profile's bytes in their places, the packed fields of R80 to R84 and a
zero byte sum; otherwise the first failing check is reported, OUT is invalid, and nothing else changes. -/
def Obligations.EncodeOutcome : Prop :=
  decode 0x00000001 = .command .encode ∧ ∀ (s : State) (h v r c : Nat),
    s.cfg.wellFormed = true → h = s.argHact.toNat → v = s.argVact.toNat → r = s.argRate.toNat →
    c = roundq ((h + 160) * (v + 45) * r) 10000 s.cfg.clockRounding →
    (r ∉ s.cfg.rateSet →
      exec .encode s = .next { s.withResult 1 .unsupportedRefreshRate .noField s.argRate with out := none }) ∧
    (r ∈ s.cfg.rateSet → 4095 < h →
      exec .encode s = .next { s.withResult 1 .fieldOverflow .hActive s.argHact with out := none }) ∧
    (r ∈ s.cfg.rateSet → h ≤ 4095 → 4095 < v →
      exec .encode s = .next { s.withResult 1 .fieldOverflow .vActive s.argVact with out := none }) ∧
    (r ∈ s.cfg.rateSet → h ≤ 4095 → v ≤ 4095 → 65535 < c →
      ∃ i : Word, i.toNat = c ∧ c ≤ 115444490 ∧
        exec .encode s = .next { s.withResult 1 .fieldOverflow .pixelClock i with out := none }) ∧
    (r ∈ s.cfg.rateSet → h ≤ 4095 → v ≤ 4095 → c ≤ 65535 →
      ∃ b : Vector Byte 128,
        exec .encode s = .next { s.withResult 1 .ok .noField 0 with out := some b } ∧
        hasHeader b ∧ profileBytes s.cfg.profile b ∧ blockSum b % 256 = 0 ∧
        b[54].toNat = c % 256 ∧ b[55].toNat = c / 256 ∧
        b[56].toNat = h % 256 ∧ b[57].toNat = 160 ∧ b[58].toNat = h / 256 ∧
        b[59].toNat = v % 256 ∧ b[60].toNat = 45 ∧ b[61].toNat = v / 256 ∧
        b[62].toNat = s.cfg.hSyncOffset.toNat % 256 ∧ b[63].toNat = s.cfg.hSyncPulse.toNat ∧
        b[64].toNat = 16 * s.cfg.vSyncOffset.toNat + s.cfg.vSyncPulse.toNat ∧
        b[65].toNat = 64 * (s.cfg.hSyncOffset.toNat / 256))

/-- R105: the word 0x00000003 is DERIVE, and this is DERIVE's whole outcome. On accepted operands it answers a state
in which the D group holds the exact totals, pixel clock and 10 kHz clock, none of them wrapped; otherwise the first
failing check is reported, the D group is invalid, and nothing else changes. -/
def Obligations.DeriveOutcome : Prop :=
  decode 0x00000003 = .command .derive ∧ ∀ (s : State) (h v r p c : Nat),
    s.cfg.wellFormed = true → h = s.argHact.toNat → v = s.argVact.toNat → r = s.argRate.toNat →
    p = (h + 160) * (v + 45) * r → c = roundq p 10000 s.cfg.clockRounding →
    (r ∉ s.cfg.rateSet →
      exec .derive s = .next { s.withResult 3 .unsupportedRefreshRate .noField s.argRate with dGroup := none }) ∧
    (r ∈ s.cfg.rateSet → 65535 < h →
      exec .derive s = .next { s.withResult 3 .fieldOverflow .hActive s.argHact with dGroup := none }) ∧
    (r ∈ s.cfg.rateSet → h ≤ 65535 → 65535 < v →
      exec .derive s = .next { s.withResult 3 .fieldOverflow .vActive s.argVact with dGroup := none }) ∧
    (r ∈ s.cfg.rateSet → h ≤ 65535 → v ≤ 65535 →
      ∃ d : DGroup,
        exec .derive s = .next { s.withResult 3 .ok .noField 0 with dGroup := some d } ∧
        d.hTotal.toNat = h + 160 ∧ d.vTotal.toNat = v + 45 ∧ d.pclk.toNat = p ∧ d.clk10k.toNat = c ∧
        (d.clkFits = true ↔ c ≤ 65535) ∧ p < 2 ^ 49 ∧ c < 2 ^ 35)

/-- R140 to R143: the word 0x00000002 is VALIDATE, and this is VALIDATE's whole outcome. It reports the first of the
three checks that fails, or OK, and changes nothing but the four result fields. -/
def Obligations.ValidateOutcome : Prop :=
  decode 0x00000002 = .command .validate ∧ ∀ s : State,
    (s.inLen ≠ 128 →
      exec .validate s = .next (s.withResult 2 .lengthMismatch .noField s.inLen)) ∧
    (s.inLen = 128 → ¬ hasHeader s.inBuf →
      exec .validate s = .next (s.withResult 2 .headerMismatch .noField 0)) ∧
    (s.inLen = 128 → hasHeader s.inBuf → blockSum s.inBuf % 256 ≠ 0 →
      exec .validate s =
        .next (s.withResult 2 .checksumMismatch .noField (BitVec.ofNat 32 (blockSum s.inBuf % 256)))) ∧
    (s.inLen = 128 → hasHeader s.inBuf → blockSum s.inBuf % 256 = 0 →
      exec .validate s = .next (s.withResult 2 .ok .noField 0))

/-- R150, R151: the word 0x00000004 is UNPACK, and this is UNPACK's whole outcome. On a block that passes the three
checks the U group holds the nine fields of `IN[54..71]`, each number put together from its bytes; otherwise the first
failing check is reported, the U group is invalid, and nothing else changes. -/
def Obligations.UnpackOutcome : Prop :=
  decode 0x00000004 = .command .unpack ∧ ∀ s : State,
    (s.inLen ≠ 128 →
      exec .unpack s = .next { s.withResult 4 .lengthMismatch .noField s.inLen with uGroup := none }) ∧
    (s.inLen = 128 → ¬ hasHeader s.inBuf →
      exec .unpack s = .next { s.withResult 4 .headerMismatch .noField 0 with uGroup := none }) ∧
    (s.inLen = 128 → hasHeader s.inBuf → blockSum s.inBuf % 256 ≠ 0 →
      exec .unpack s =
        .next { s.withResult 4 .checksumMismatch .noField (BitVec.ofNat 32 (blockSum s.inBuf % 256)) with
          uGroup := none }) ∧
    (s.inputValid →
      ∃ u : UGroup,
        exec .unpack s = .next { s.withResult 4 .ok .noField 0 with uGroup := some u } ∧
        u.clock10k.toNat = s.inBuf[54].toNat + 256 * s.inBuf[55].toNat ∧
        u.hact.toNat = s.inBuf[56].toNat + 256 * (s.inBuf[58].toNat % 16) ∧
        u.hblank.toNat = s.inBuf[57].toNat + 256 * (s.inBuf[58].toNat / 16) ∧
        u.vact.toNat = s.inBuf[59].toNat + 256 * (s.inBuf[61].toNat % 16) ∧
        u.vblank.toNat = s.inBuf[60].toNat + 256 * (s.inBuf[61].toNat / 16) ∧
        u.hso.toNat = s.inBuf[62].toNat + 256 * (s.inBuf[65].toNat / 64) ∧
        u.hsp.toNat = s.inBuf[63].toNat + 256 * (s.inBuf[65].toNat / 16 % 4) ∧
        u.vso.toNat = s.inBuf[64].toNat / 16 + 16 * (s.inBuf[65].toNat / 4 % 4) ∧
        u.vsp.toNat = s.inBuf[64].toNat % 16 + 16 * (s.inBuf[65].toNat % 4))

/-- R37, R72: the write matrix. Whatever word is written to `CMD`, the configuration, the operands, the buffer, the
host's inputs and the logs keep their values, `LAST_OP` takes bits 3:0 of the word, and each result group keeps its
value unless the word is the command that owns it. -/
def Obligations.CommandsKeepTheWriteMatrix : Prop :=
  ∀ (w : Word) (s t : State), runCommand w s = .next t →
    t.cfg = s.cfg ∧ t.argHact = s.argHact ∧ t.argVact = s.argVact ∧ t.argRate = s.argRate ∧ t.inLen = s.inLen ∧
      t.inBuf = s.inBuf ∧ t.pending = s.pending ∧ t.responses = s.responses ∧ t.faultLog = s.faultLog ∧
      t.lastOp = w.extractLsb' 0 4 ∧ (w ≠ 1 → t.out = s.out) ∧ (w ≠ 3 → t.dGroup = s.dGroup) ∧
      (w ≠ 4 → t.uGroup = s.uGroup)

/-- R28: after the command that owns a group, the group is valid exactly if the command succeeded; every other group is
as it was. -/
def Obligations.OwnGroupIsValidExactlyOnSuccess : Prop :=
  ∀ s : State,
    (∃ t, exec .encode s = .next t ∧ (t.out.isSome = true ↔ t.code = .ok) ∧ t.dGroup = s.dGroup ∧
      t.uGroup = s.uGroup) ∧
    (∃ t, exec .derive s = .next t ∧ (t.dGroup.isSome = true ↔ t.code = .ok) ∧ t.out = s.out ∧
      t.uGroup = s.uGroup) ∧
    (∃ t, exec .unpack s = .next t ∧ (t.uGroup.isSome = true ↔ t.code = .ok) ∧ t.out = s.out ∧
      t.dGroup = s.dGroup) ∧
    (∃ t, exec .validate s = .next t ∧ t.out = s.out ∧ t.dGroup = s.dGroup ∧ t.uGroup = s.uGroup)

/-- R36: a command's result and the group it owns depend on the host-written state and the configuration alone: two
states that agree on those give the same, whatever else they hold. -/
def Obligations.OutcomeDependsOnHostStateAlone : Prop :=
  ∀ (i : Instr) (s s' : State),
    s'.cfg = s.cfg → s'.argHact = s.argHact → s'.argVact = s.argVact → s'.argRate = s.argRate →
    s'.inLen = s.inLen → s'.inBuf = s.inBuf →
      ∃ t t', exec i s = .next t ∧ exec i s' = .next t' ∧ t'.code = t.code ∧ t'.field = t.field ∧
        t'.lastOp = t.lastOp ∧ t'.info = t.info ∧ (i = .encode → t'.out = t.out) ∧
        (i = .derive → t'.dGroup = t.dGroup) ∧ (i = .unpack → t'.uGroup = t.uGroup)

/-- R128: what a successful ENCODE leaves in OUT is a function of the three argument registers and the configuration;
`IN`, `IN_LEN`, the other groups and the earlier result do not matter. -/
def Obligations.EncodeIsDeterministic : Prop :=
  ∀ s s' t t' : State,
    s'.cfg = s.cfg → s'.argHact = s.argHact → s'.argVact = s.argVact → s'.argRate = s.argRate →
    exec .encode s = .next t → exec .encode s' = .next t' → t.code = .ok →
      t'.code = .ok ∧ t'.out = t.out

/-- R129: two successful ENCODEs under one configuration leave the same byte at every position outside the packed
fields 54..65 and the checksum 127, whatever their arguments were. -/
def Obligations.ProfileBytesDoNotDependOnArguments : Prop :=
  ∀ (s s' t t' : State) (b b' : Vector Byte 128),
    s'.cfg = s.cfg → exec .encode s = .next t → exec .encode s' = .next t' → t.out = some b → t'.out = some b' →
      ∀ i : Fin 128, ¬ (54 ≤ i.val ∧ i.val ≤ 65) → i.val ≠ 127 → b[i.val] = b'[i.val]

/-- R127: a block ENCODE produced, copied to `IN` with `IN_LEN = 128`, meets the three conditions, and VALIDATE reports
OK on it. -/
def Obligations.EncodedBlocksValidate : Prop :=
  ∀ (s t : State) (b : Vector Byte 128),
    exec .encode s = .next t → t.code = .ok → t.out = some b →
      { t with inBuf := b, inLen := 128 }.inputValid ∧
      exec .validate { t with inBuf := b, inLen := 128 } =
        .next ({ t with inBuf := b, inLen := 128 }.withResult 2 .ok .noField 0)

/-- R152: UNPACK of a block ENCODE produced gives back the mode, the blanking counts, the clock and the sync
parameters. -/
def Obligations.UnpackInvertsEncode : Prop :=
  ∀ (s t : State) (b : Vector Byte 128),
    exec .encode s = .next t → t.code = .ok → t.out = some b →
      ∃ u : UGroup,
        exec .unpack { t with inBuf := b, inLen := 128 } =
          .next { { t with inBuf := b, inLen := 128 }.withResult 4 .ok .noField 0 with uGroup := some u } ∧
        u.clock10k.toNat = clk10k s.cfg.clockRounding s.argHact.toNat s.argVact.toNat s.argRate.toNat ∧
        u.hact = s.argHact ∧ u.hblank = 160 ∧ u.vact = s.argVact ∧ u.vblank = 45 ∧
        u.hso.toNat = s.cfg.hSyncOffset.toNat ∧ u.hsp.toNat = s.cfg.hSyncPulse.toNat ∧
        u.vso.toNat = s.cfg.vSyncOffset.toNat ∧ u.vsp.toNat = s.cfg.vSyncPulse.toNat

/-- R153: packing the U group again gives back bytes 54..65 of the block it was unpacked from, for every valid block. -/
def Obligations.PackInvertsUnpack : Prop :=
  ∀ (s t : State) (u : UGroup),
    s.inputValid → exec .unpack s = .next t → t.uGroup = some u →
      packClock (u.clock10k.setWidth 16) ++ packPair (u.hact.setWidth 12) (u.hblank.setWidth 12) ++
          packPair (u.vact.setWidth 12) (u.vblank.setWidth 12) ++
          packSync (u.hso.setWidth 10) (u.hsp.setWidth 10) (u.vso.setWidth 6) (u.vsp.setWidth 6) =
        (s.inBuf.toList.drop 54).take 12

/-- R145: in a block that passes VALIDATE, any single flipped bit is reported: a header byte as HeaderMismatch, any
other byte as ChecksumMismatch with `INFO = 2^k` or `256 - 2^k`. -/
def Obligations.SingleBitFlipsAreDetected : Prop :=
  ∀ (s s' : State) (i : Fin 128) (k : Fin 8),
    s.inputValid →
    s' = { s with inBuf := s.inBuf.set i.val (s.inBuf[i.val] ^^^ BitVec.twoPow 8 k.val) } →
      (i.val < 8 → exec .validate s' = .next (s'.withResult 2 .headerMismatch .noField 0)) ∧
      (8 ≤ i.val → s.inBuf[i.val].getLsbD k.val = false →
        exec .validate s' = .next (s'.withResult 2 .checksumMismatch .noField (BitVec.ofNat 32 (2 ^ k.val)))) ∧
      (8 ≤ i.val → s.inBuf[i.val].getLsbD k.val = true →
        exec .validate s' =
          .next (s'.withResult 2 .checksumMismatch .noField (BitVec.ofNat 32 (256 - 2 ^ k.val))))

/-- R144: VALIDATE changes nothing but `STATUS` and `INFO`, and a second VALIDATE answers the very same state. -/
def Obligations.ValidateIsIdempotent : Prop :=
  ∀ s : State, ∃ c f i,
    exec .validate s = .next (s.withResult 2 c f i) ∧
    exec .validate (s.withResult 2 c f i) = .next (s.withResult 2 c f i)

/-- R106: where ENCODE succeeds, DERIVE with the same arguments succeeds, its clock fits and is the one ENCODE packed,
and its totals are the counts plus 160 and 45. -/
def Obligations.DeriveAgreesWithEncode : Prop :=
  ∀ (s t : State) (b : Vector Byte 128),
    exec .encode s = .next t → t.code = .ok → t.out = some b →
      ∃ (t' : State) (d : DGroup),
        exec .derive s = .next t' ∧ t'.code = .ok ∧ t'.dGroup = some d ∧ d.clkFits = true ∧
        d.clk10k.toNat = b[54].toNat + 256 * b[55].toNat ∧
        d.hTotal.toNat = s.argHact.toNat + 160 ∧ d.vTotal.toNat = s.argVact.toNat + 45

/-! ### The functions the commands use -/

/-- R103: in both nearest modes the rounded clock is within 5000 Hz of the exact one; in FLOOR mode it is below it by
less than 10000 Hz. -/
def Obligations.RoundingErrorIsBounded : Prop :=
  ∀ h v r : Nat,
    (∀ m, m = .nearestTiesEven ∨ m = .nearestTiesAway →
      clk10k m h v r * 10000 ≤ pclkHz h v r + 5000 ∧ pclkHz h v r ≤ clk10k m h v r * 10000 + 5000) ∧
    clk10k .floor h v r * 10000 ≤ pclkHz h v r ∧ pclkHz h v r < clk10k .floor h v r * 10000 + 10000

/-- R11: the nearest modes choose the nearest multiple, and differ only on exact ties, where one takes the even
quotient and the other the larger one. -/
def Obligations.NearestModesDifferOnlyOnTies : Prop :=
  ∀ n d : Nat, 0 < d →
    (2 * (n % d) < d → roundq n d .nearestTiesEven = n / d ∧ roundq n d .nearestTiesAway = n / d) ∧
    (d < 2 * (n % d) → roundq n d .nearestTiesEven = n / d + 1 ∧ roundq n d .nearestTiesAway = n / d + 1) ∧
    (2 * (n % d) = d →
      roundq n d .nearestTiesAway = n / d + 1 ∧ roundq n d .nearestTiesEven % 2 = 0 ∧
        (roundq n d .nearestTiesEven = n / d ∨ roundq n d .nearestTiesEven = n / d + 1)) ∧
    roundq n d .floor = n / d

/-- R125: the checksum of a body makes the whole sum zero modulo 256, and is 0, not 256, where the body's sum already
is. -/
def Obligations.ChecksumMakesTheSumZero : Prop :=
  ∀ body : List Byte, body.length = 127 →
    (checksum body).toNat = (256 - byteSum body % 256) % 256 ∧
      (byteSum body + (checksum body).toNat) % 256 = 0 ∧ (byteSum body % 256 = 0 → checksum body = 0)

/-- R104: a rate is supported exactly if it equals an entry of the rate set at full width; under the default set these
are 60, 120, 144 and 240 alone. -/
def Obligations.OnlyListedRatesAreSupported : Prop :=
  (∀ (c : Cfg) (r : Word), rateOk c r = true ↔ ∃ e ∈ c.rateSet, e = r.toNat) ∧
    ∀ r : Word, rateOk Config.built r = true ↔ r = 60 ∨ r = 120 ∨ r = 144 ∨ r = 240

/-- R105, R126, C1: the source's 5120 by 1440 mode at 60 Hz. DERIVE computes it; ENCODE rejects it, because 5120 does
not fit 12 bits. -/
def Obligations.SourceScenario : Prop :=
  ∀ s : State, s.argHact = 5120 → s.argVact = 1440 → s.argRate = 60 → 60 ∈ s.cfg.rateSet →
    s.cfg.clockRounding ≠ .floor →
      exec .derive s = .next { s.withResult 3 .ok .noField 0 with
        dGroup := some { hTotal := 5280, vTotal := 1485, pclk := 470448000, clk10k := 47045, clkFits := true } } ∧
      exec .encode s = .next { s.withResult 1 .fieldOverflow .hActive 5120 with out := none }

/-! ### The host bus -/

/-- R56: a transaction is a bus error exactly under the five conditions. A bus error changes no state of the block and
is recorded as `BusError(BASE + off)`; any other transaction is answered and records no fault; a read of `CMD` is no
error and returns 0. The `responses` entries are the model's record of the answers (notes/assumptions/8.md). That a
bus error is a next state, with the fault at the end of the log, is read from R56 and the model's order
(notes/assumptions/7.md). -/
def Obligations.BusErrorsAreExactlyTheFiveConditions : Prop :=
  ∀ (s : State) (off : BitVec 12) (n : Nat) (rest : List HostInput), s.cfg.wellFormed = true →
    (s.pending = .read off n :: rest →
      (s.readFaults off n → step s = .next ({ s with pending := rest }.afterBusError off)) ∧
      (¬ s.readFaults off n → ∃ v,
        step s = .next { s with pending := rest, responses := s.responses ++ [.data v] })) ∧
    (∀ v, s.pending = .write off n v :: rest →
      (writeFaults off n → step s = .next ({ s with pending := rest }.afterBusError off)) ∧
      (¬ writeFaults off n → ∃ t,
        step s = .next t ∧ t.faultLog = s.faultLog ∧ t.responses = s.responses ++ [.written])) ∧
    s.reads 0x000 0

/-- R167: a write that is a bus error by its size or alignment runs no command, even at `CMD`, and leaves `LAST_OP`
and all else as it was; a word that is no command is IllegalCommand whatever the operands and the buffer are, so no
command error is reported. The response of a bus error is the model's record (notes/assumptions/8.md). The place of
the fault in the log is the model's order (notes/assumptions/7.md). -/
def Obligations.BusErrorsAndIllegalWordsComeFirst : Prop :=
  ∀ (s : State) (off : BitVec 12) (n : Nat) (v : Word) (rest : List HostInput),
    s.cfg.wellFormed = true → s.pending = .write off n v :: rest →
      (n ≠ 4 ∨ off.toNat % 4 ≠ 0 → step s = .next ({ s with pending := rest }.afterBusError off)) ∧
      (n = 4 → off = 0x000 → (v.extractLsb' 4 28 ≠ 0 ∨ v.extractLsb' 0 4 ∉ [1#4, 2#4, 3#4, 4#4]) → ∃ t,
        step s = .next t ∧ t.code = .illegalCommand ∧ t.info = v ∧ t.out = s.out ∧ t.dGroup = s.dGroup ∧
          t.uGroup = s.uGroup)

/-- R57: a read changes nothing but the host's own record of it, and the same read again answers the same value.
The `responses` entries are the model's record of what the reads return (notes/assumptions/8.md). -/
def Obligations.ReadsAreIdempotent : Prop :=
  ∀ (s : State) (off : BitVec 12) (rest : List HostInput),
    s.cfg.wellFormed = true → s.pending = .read off 4 :: .read off 4 :: rest → ¬ s.readFaults off 4 →
      ∃ v, Host.Core.run Sys2Proof.core 2 s =
        .next { s with pending := rest, responses := s.responses ++ [.data v, .data v] }

/-- R58: the writes that are no bus errors. The four argument registers store all 32 bits; a write to a word of `IN`
stores its four bytes, the least significant first; a write to `CMD` runs a command; no other write is legal. The
`responses` entries are the model's record of the completed writes (notes/assumptions/8.md). The place of a bus
error's fault in the log is the model's order (notes/assumptions/7.md). -/
def Obligations.WritesActAsTheirRegister : Prop :=
  ∀ (s : State) (off : BitVec 12) (v : Word) (rest : List HostInput),
    s.cfg.wellFormed = true → s.pending = .write off 4 v :: rest →
      (off = 0x00C → step s =
        .next { s with argHact := v, pending := rest, responses := s.responses ++ [.written] }) ∧
      (off = 0x010 → step s =
        .next { s with argVact := v, pending := rest, responses := s.responses ++ [.written] }) ∧
      (off = 0x014 → step s =
        .next { s with argRate := v, pending := rest, responses := s.responses ++ [.written] }) ∧
      (off = 0x018 → step s =
        .next { s with inLen := v, pending := rest, responses := s.responses ++ [.written] }) ∧
      (∀ k : Fin 32, off.toNat = 0x200 + 4 * k.val → ∃ b : Vector Byte 128,
        step s = .next { s with inBuf := b, pending := rest, responses := s.responses ++ [.written] } ∧
        ∀ i : Fin 128, b[i.val] =
          if i.val / 4 = k.val then v.extractLsb' (8 * (i.val % 4)) 8 else s.inBuf[i.val]) ∧
      (off = 0x000 → ∃ t, runCommand v { s with pending := rest } = .next t ∧
        step s = .next { t with responses := t.responses ++ [.written] }) ∧
      (off ∉ [0x000#12, 0x00C#12, 0x010#12, 0x014#12, 0x018#12] → (∀ k : Fin 32, off.toNat ≠ 0x200 + 4 * k.val) →
        step s = .next ({ s with pending := rest }.afterBusError off))

/-- R52: the buffer windows pack four bytes into one word, least-significant byte first. -/
def Obligations.WindowsAreLittleEndian : Prop :=
  ∀ (s : State) (k : Fin 32), s.cfg.wellFormed = true →
    (∃ w : Word, s.reads (0x200 + 4 * k.val) w ∧
      w.toNat = s.inBuf[4 * k.val].toNat + 256 * s.inBuf[4 * k.val + 1].toNat +
        65536 * s.inBuf[4 * k.val + 2].toNat + 16777216 * s.inBuf[4 * k.val + 3].toNat) ∧
    (∀ b, s.out = some b → ∃ w : Word, s.reads (0x100 + 4 * k.val) w ∧
      w.toNat = b[4 * k.val].toNat + 256 * b[4 * k.val + 1].toNat +
        65536 * b[4 * k.val + 2].toNat + 16777216 * b[4 * k.val + 3].toNat)

/-- R52, R88: reading word `k` of OUT and writing the value to word `k` of IN copies exactly those four bytes
(`copy_out_in`, word by word). -/
def Obligations.CopyOutInCopiesTheBytes : Prop :=
  ∀ (s : State) (b : Vector Byte 128) (k : Fin 32) (w : Word) (rest : List HostInput),
    s.cfg.wellFormed = true → s.out = some b → s.reads (0x100 + 4 * k.val) w →
    s.pending = .write (BitVec.ofNat 12 (0x200 + 4 * k.val)) 4 w :: rest →
      ∃ t, step s = .next t ∧
        ∀ i : Fin 128, t.inBuf[i.val] = if i.val / 4 = k.val then b[i.val] else s.inBuf[i.val]

/-- R22 to R25, R29, R30, R35: what a read of each host register returns. -/
def Obligations.RegisterReads : Prop :=
  ∀ s : State, s.cfg.wellFormed = true →
    s.reads 0x000 0 ∧ s.reads 0x004 s.statusWord ∧ s.reads 0x008 s.info ∧ s.reads 0x00C s.argHact ∧
      s.reads 0x010 s.argVact ∧ s.reads 0x014 s.argRate ∧ s.reads 0x018 s.inLen

/-- R29, R160, R161: the fields of the status word, each at its bits, with bits 31:16 zero, the number of every
code and the number of every field. -/
def Obligations.StatusWordLayout : Prop :=
  ∀ s : State,
    s.statusWord.toNat =
      s.code.bits.toNat + 16 * s.field.bits.toNat + 256 * s.out.isSome.toNat + 512 * s.dGroup.isSome.toNat +
        1024 * s.uGroup.isSome.toNat + 2048 * s.dClkFits.toNat + 4096 * s.lastOp.toNat ∧
    s.statusWord.toNat < 65536 ∧ (s.dGroup = none → s.dClkFits = false) ∧
    (∀ d, s.dGroup = some d → s.dClkFits = d.clkFits) ∧
    (s.code = .ok → s.statusWord.toNat % 16 = 0) ∧
    (s.code = .unsupportedRefreshRate → s.statusWord.toNat % 16 = 1) ∧
    (s.code = .fieldOverflow → s.statusWord.toNat % 16 = 2) ∧
    (s.code = .lengthMismatch → s.statusWord.toNat % 16 = 3) ∧
    (s.code = .headerMismatch → s.statusWord.toNat % 16 = 4) ∧
    (s.code = .checksumMismatch → s.statusWord.toNat % 16 = 5) ∧
    (s.code = .illegalCommand → s.statusWord.toNat % 16 = 6) ∧
    (s.code = .noCommand → s.statusWord.toNat % 16 = 15) ∧
    (s.field = .noField → s.statusWord.toNat / 16 % 16 = 0) ∧
    (s.field = .hActive → s.statusWord.toNat / 16 % 16 = 1) ∧
    (s.field = .vActive → s.statusWord.toNat / 16 % 16 = 2) ∧
    (s.field = .pixelClock → s.statusWord.toNat / 16 % 16 = 3)

/-- R28, R33: the D registers. While the group is valid each offset reads its member, the two 64-bit members in two
words, low word first; while it is invalid each read is a bus error. -/
def Obligations.DGroupReads : Prop :=
  ∀ s : State, s.cfg.wellFormed = true →
    (∀ d, s.dGroup = some d →
      s.reads 0x020 d.hTotal ∧ s.reads 0x024 d.vTotal ∧
      s.reads 0x028 (BitVec.ofNat 32 (d.pclk.toNat % 2 ^ 32)) ∧ s.reads 0x02C (BitVec.ofNat 32 (d.pclk.toNat / 2 ^ 32)) ∧
      s.reads 0x030 (BitVec.ofNat 32 (d.clk10k.toNat % 2 ^ 32)) ∧
      s.reads 0x034 (BitVec.ofNat 32 (d.clk10k.toNat / 2 ^ 32))) ∧
    (s.dGroup = none → ∀ off ∈ [0x020, 0x024, 0x028, 0x02C, 0x030, 0x034], s.readIsBusError off)

/-- R28, R34: the U registers, each at its offset while the group is valid, a bus error while it is not. -/
def Obligations.UGroupReads : Prop :=
  ∀ s : State, s.cfg.wellFormed = true →
    (∀ u, s.uGroup = some u →
      s.reads 0x040 u.clock10k ∧ s.reads 0x044 u.hact ∧ s.reads 0x048 u.hblank ∧ s.reads 0x04C u.vact ∧
      s.reads 0x050 u.vblank ∧ s.reads 0x054 u.hso ∧ s.reads 0x058 u.hsp ∧ s.reads 0x05C u.vso ∧
      s.reads 0x060 u.vsp) ∧
    (s.uGroup = none →
      ∀ off ∈ [0x040, 0x044, 0x048, 0x04C, 0x050, 0x054, 0x058, 0x05C, 0x060], s.readIsBusError off)

/-- R32: `RATE_COUNT` and `RATE_TABLE` report the rate set in its stored order, the unused entries as 0; under the
default configuration they read 4 and 60, 120, 144, 240; reset leaves them as they are.
`State.reset` runs under the default configuration (notes/assumptions/3.md). -/
def Obligations.RateTableReads : Prop :=
  (∀ s : State, s.cfg.wellFormed = true →
    s.reads 0x01C (BitVec.ofNat 32 s.cfg.rateSet.length) ∧
    ∀ i : Fin 32,
      (∀ r, s.cfg.rateSet[i.val]? = some r → s.reads (0x080 + 4 * i.val) (BitVec.ofNat 32 r)) ∧
      (s.cfg.rateSet.length ≤ i.val → s.reads (0x080 + 4 * i.val) 0)) ∧
  (State.reset.reads 0x01C 4 ∧ State.reset.reads 0x080 60 ∧ State.reset.reads 0x084 120 ∧
    State.reset.reads 0x088 144 ∧ State.reset.reads 0x08C 240) ∧
  ∀ s t : State, step s = .next t → t.cfg.rateSet = s.cfg.rateSet

/-- R184: results are snapshots. A write to any offset but `CMD` leaves `STATUS`, `INFO` and the three groups as they
are. -/
def Obligations.ResultsAreSnapshots : Prop :=
  ∀ (s t : State) (off : BitVec 12) (n : Nat) (v : Word) (rest : List HostInput),
    s.pending = .write off n v :: rest → off ≠ 0x000 → step s = .next t →
      t.statusWord = s.statusWord ∧ t.info = s.info ∧ t.out = s.out ∧ t.dGroup = s.dGroup ∧ t.uGroup = s.uGroup

/-- R13, with the model's choice of notes/assumptions/6.md: while the host sends nothing, the block changes nothing. -/
def Obligations.IdleBlockChangesNothing : Prop :=
  ∀ s : State, s.cfg.wellFormed = true → s.pending = [] → step s = .next s

/-! ### Host programs -/

/-- R88, R63: `encode h, v, r` and `derive h, v, r` store their three operands and then run their command on them: the
four steps answer what the command answers on those operands. The responses are the model's record
(notes/assumptions/8.md). -/
def Obligations.PseudoCommandsRunOnTheirOperands : Prop :=
  ∀ (s : State) (h v r : Word) (rest : List HostInput), s.cfg.wellFormed = true →
    (s.pending = expand (.encode h v r) ++ rest → ∃ t,
      exec .encode { s with argHact := h, argVact := v, argRate := r, pending := rest,
                            responses := s.responses ++ [.written, .written, .written] } = .next t ∧
      Host.Core.run Sys2Proof.core 4 s = .next { t with responses := t.responses ++ [.written] }) ∧
    (s.pending = expand (.derive h v r) ++ rest → ∃ t,
      exec .derive { s with argHact := h, argVact := v, argRate := r, pending := rest,
                            responses := s.responses ++ [.written, .written, .written] } = .next t ∧
      Host.Core.run Sys2Proof.core 4 s = .next { t with responses := t.responses ++ [.written] })

/-- R88, R52: the 33 transactions of `load_in B, len` leave exactly the bytes of `B` in `IN` and `len` in `IN_LEN`.
The responses are the model's record (notes/assumptions/8.md). -/
def Obligations.LoadInFillsTheBuffer : Prop :=
  ∀ (s : State) (b : Vector Byte 128) (len : Word) (rest : List HostInput),
    s.cfg.wellFormed = true → s.pending = expand (.loadIn b len) ++ rest →
      Host.Core.run Sys2Proof.core 33 s =
        .next { s with inBuf := b, inLen := len, pending := rest,
                       responses := s.responses ++ List.replicate 33 .written }

/-- R88, R52: with a valid OUT group, the 65 transactions of `copy_out_in`, each write carrying the word just read,
leave the bytes of OUT in `IN` and 128 in `IN_LEN`, and the reads answer those words. That the pseudo-instruction
carries the words read is the model's choice (notes/assumptions/19.md). The responses are the model's record
(notes/assumptions/8.md). -/
def Obligations.CopyOutInCopiesTheBlock : Prop :=
  ∀ (s : State) (b : Vector Byte 128) (t : Vector Word 32) (rest : List HostInput),
    s.cfg.wellFormed = true → s.out = some b → (∀ k : Fin 32, s.reads (0x100 + 4 * k.val) t[k]) →
    s.pending = expand (.copyOutIn t) ++ rest →
      Host.Core.run Sys2Proof.core 65 s =
        .next { s with inBuf := b, inLen := 128, pending := rest,
                       responses := s.responses ++
                         ((List.finRange 32).flatMap fun k => [.data t[k], .written]) ++ [.written] }

/-! ### Reset, and the whole machine -/

/-- R180: what the state is after reset, under every configuration: `STATUS` is 0x0000000F, `INFO`, the operands and
`IN` are zero, and every member of a result group is a bus error to read. -/
def Obligations.StateAfterReset : Prop :=
  ∀ (c : Cfg) (s : State), s = State.resetWith c →
    (s.code = .noCommand ∧ s.field = .noField ∧ s.lastOp = 0 ∧ s.out = none ∧ s.dGroup = none ∧ s.uGroup = none ∧
      s.dClkFits = false ∧ s.statusWord = 0x0000000F ∧ s.info = 0 ∧ s.argHact = 0 ∧ s.argVact = 0 ∧
      s.argRate = 0 ∧ s.inLen = 0 ∧ s.cfg = c ∧ ∀ i : Fin 128, s.inBuf[i.val] = 0x00) ∧
    (c.wellFormed = true →
      s.reads 0x000 0 ∧ (∀ k : Fin 32, s.readIsBusError (0x100 + 4 * k.val)) ∧
      ∀ off ∈ [0x020, 0x024, 0x028, 0x02C, 0x030, 0x034, 0x040, 0x044, 0x048, 0x04C, 0x050, 0x054, 0x058, 0x05C, 0x060],
        s.readIsBusError off)

/-- R180, with the model's choice of notes/assumptions/16.md for the host's inputs and the logs: a reset puts the block
into its state after reset from any state. -/
def Obligations.ResetInputRestoresTheResetState : Prop :=
  ∀ (s : State) (rest : List HostInput), s.cfg.wellFormed = true → s.pending = .reset :: rest →
    step s = .next { State.resetWith s.cfg with
      pending := rest, responses := s.responses, faultLog := s.faultLog }

/-- R183: any command may be the first one after reset, and runs on operands of 0. -/
def Obligations.FirstCommandAfterReset : Prop :=
  ∀ (c : Cfg) (s : State), c.wellFormed = true → s = State.resetWith c →
    exec .encode s = .next (s.withResult 1 .unsupportedRefreshRate .noField 0) ∧
    exec .derive s = .next (s.withResult 3 .unsupportedRefreshRate .noField 0) ∧
    exec .validate s = .next (s.withResult 2 .lengthMismatch .noField 0) ∧
    exec .unpack s = .next (s.withResult 4 .lengthMismatch .noField 0)

/-- R182: reset alone returns `STATUS.CODE` to `NONE`, and reset aside a group becomes invalid only by the word of the
command that owns it, written to `CMD`. -/
def Obligations.OnlyResetForgets : Prop :=
  ∀ (s t : State) (x : HostInput) (rest : List HostInput),
    s.pending = x :: rest → x ≠ .reset → step s = .next t →
      (t.code = .noCommand → s.code = .noCommand) ∧
      (s.out.isSome = true → t.out = none → x = .write 0x000 4 1) ∧
      (s.dGroup.isSome = true → t.dGroup = none → x = .write 0x000 4 3) ∧
      (s.uGroup.isSome = true → t.uGroup = none → x = .write 0x000 4 4)

/-- R160, R161, R28: the result registers always say one thing together. Every step, from every state that holds it,
keeps the table of codes: who raises each, with which `FIELD` and `INFO`, and what the command left of its group. -/
def Obligations.ResultRegistersStayConsistent : Prop :=
  ∀ s t : State, s.resultInv → step s = .next t → t.resultInv

/-- R127, R129: a valid OUT group is always a block with the header, a zero sum and the profile's bytes, whatever the
host does. -/
def Obligations.ReadableDescriptorsStayValid : Prop :=
  ∀ s t : State, s.outInv → step s = .next t → t.outInv

/-- R33, R105: a valid D group always holds the exact parameters of one accepted mode, with `D_CLK_FITS` telling the
truth about its clock. -/
def Obligations.DerivedParametersStayExact : Prop :=
  ∀ s t : State, s.dInv → step s = .next t → t.dInv

/-- R34: the registers of a valid U group are always zero above their fields' widths. -/
def Obligations.UnpackedFieldsStayInWidth : Prop :=
  ∀ s t : State, s.uInv → step s = .next t → t.uInv

/-- R7, R180: the four invariants hold after reset, under every configuration, and the configuration `State.reset`
starts with is well-formed.
`State.reset` runs under R6's defaults (notes/assumptions/3.md). -/
def Obligations.InvariantsHoldAfterReset : Prop :=
  (∀ c : Cfg, (State.resetWith c).resultInv ∧ (State.resetWith c).outInv ∧ (State.resetWith c).dInv ∧
    (State.resetWith c).uInv) ∧
  State.reset.resultInv ∧ State.reset.outInv ∧ State.reset.dInv ∧ State.reset.uInv ∧
  State.reset.cfg.wellFormed = true

/-- R61, R191: as many steps as there are inputs at the head of the host's list deliver exactly those, and leave the
rest pending; so the inputs are delivered in their order, each transaction is answered once, and no input makes the
block stop or wait. The responses, and that a reset has none, are the model's choice (notes/assumptions/8.md and
16.md). -/
def Obligations.EveryInputIsDelivered : Prop :=
  ∀ (s : State) (sent rest : List HostInput), s.cfg.wellFormed = true → s.pending = sent ++ rest →
    ∃ t, Host.Core.run Sys2Proof.core sent.length s = .next t ∧ t.pending = rest ∧ t.cfg = s.cfg ∧
      t.responses.length = s.responses.length + (sent.filter (· ≠ .reset)).length

/-- R56, R61: the run's fault log and the host's responses only grow, at the end: what was recorded stays.
The responses and the order of the log are the model's choice (notes/assumptions/7.md and 8.md). -/
def Obligations.RecordsOnlyGrow : Prop :=
  ∀ s t : State, step s = .next t →
    s.faultLog <+: t.faultLog ∧ s.responses <+: t.responses ∧
      t.faultLog.length ≤ s.faultLog.length + 1 ∧ t.responses.length ≤ s.responses.length + 1
end

