-- ==== Sys2Proof/Laws/State.lean ====
section
/-! SUPPORT. What each update of Machine/Ops.lean does to each field of the state: one lemma per field per update,
true by rfl, so that no proof unfolds a record update. -/

namespace Sys2Proof.Machine

section SetResult

variable (s : State) (c : Code) (f : OverflowField) (i : Word)

@[simp] theorem State.setResult_cfg : (s.setResult c f i).cfg = s.cfg := rfl
@[simp] theorem State.setResult_code : (s.setResult c f i).code = c := rfl
@[simp] theorem State.setResult_field : (s.setResult c f i).field = f := rfl
@[simp] theorem State.setResult_lastOp : (s.setResult c f i).lastOp = s.lastOp := rfl
@[simp] theorem State.setResult_info : (s.setResult c f i).info = i := rfl
@[simp] theorem State.setResult_argHact : (s.setResult c f i).argHact = s.argHact := rfl
@[simp] theorem State.setResult_argVact : (s.setResult c f i).argVact = s.argVact := rfl
@[simp] theorem State.setResult_argRate : (s.setResult c f i).argRate = s.argRate := rfl
@[simp] theorem State.setResult_inLen : (s.setResult c f i).inLen = s.inLen := rfl
@[simp] theorem State.setResult_inBuf : (s.setResult c f i).inBuf = s.inBuf := rfl
@[simp] theorem State.setResult_out : (s.setResult c f i).out = s.out := rfl
@[simp] theorem State.setResult_dGroup : (s.setResult c f i).dGroup = s.dGroup := rfl
@[simp] theorem State.setResult_uGroup : (s.setResult c f i).uGroup = s.uGroup := rfl
@[simp] theorem State.setResult_pending : (s.setResult c f i).pending = s.pending := rfl
@[simp] theorem State.setResult_responses : (s.setResult c f i).responses = s.responses := rfl
@[simp] theorem State.setResult_faultLog : (s.setResult c f i).faultLog = s.faultLog := rfl

end SetResult

section SetLastOp

variable (s : State) (v : BitVec 4)

@[simp] theorem State.setLastOp_cfg : (s.setLastOp v).cfg = s.cfg := rfl
@[simp] theorem State.setLastOp_code : (s.setLastOp v).code = s.code := rfl
@[simp] theorem State.setLastOp_field : (s.setLastOp v).field = s.field := rfl
@[simp] theorem State.setLastOp_lastOp : (s.setLastOp v).lastOp = v := rfl
@[simp] theorem State.setLastOp_info : (s.setLastOp v).info = s.info := rfl
@[simp] theorem State.setLastOp_argHact : (s.setLastOp v).argHact = s.argHact := rfl
@[simp] theorem State.setLastOp_argVact : (s.setLastOp v).argVact = s.argVact := rfl
@[simp] theorem State.setLastOp_argRate : (s.setLastOp v).argRate = s.argRate := rfl
@[simp] theorem State.setLastOp_inLen : (s.setLastOp v).inLen = s.inLen := rfl
@[simp] theorem State.setLastOp_inBuf : (s.setLastOp v).inBuf = s.inBuf := rfl
@[simp] theorem State.setLastOp_out : (s.setLastOp v).out = s.out := rfl
@[simp] theorem State.setLastOp_dGroup : (s.setLastOp v).dGroup = s.dGroup := rfl
@[simp] theorem State.setLastOp_uGroup : (s.setLastOp v).uGroup = s.uGroup := rfl
@[simp] theorem State.setLastOp_pending : (s.setLastOp v).pending = s.pending := rfl
@[simp] theorem State.setLastOp_responses : (s.setLastOp v).responses = s.responses := rfl
@[simp] theorem State.setLastOp_faultLog : (s.setLastOp v).faultLog = s.faultLog := rfl

end SetLastOp

section SetArgHact

variable (s : State) (v : Word)

@[simp] theorem State.setArgHact_cfg : (s.setArgHact v).cfg = s.cfg := rfl
@[simp] theorem State.setArgHact_code : (s.setArgHact v).code = s.code := rfl
@[simp] theorem State.setArgHact_field : (s.setArgHact v).field = s.field := rfl
@[simp] theorem State.setArgHact_lastOp : (s.setArgHact v).lastOp = s.lastOp := rfl
@[simp] theorem State.setArgHact_info : (s.setArgHact v).info = s.info := rfl
@[simp] theorem State.setArgHact_argHact : (s.setArgHact v).argHact = v := rfl
@[simp] theorem State.setArgHact_argVact : (s.setArgHact v).argVact = s.argVact := rfl
@[simp] theorem State.setArgHact_argRate : (s.setArgHact v).argRate = s.argRate := rfl
@[simp] theorem State.setArgHact_inLen : (s.setArgHact v).inLen = s.inLen := rfl
@[simp] theorem State.setArgHact_inBuf : (s.setArgHact v).inBuf = s.inBuf := rfl
@[simp] theorem State.setArgHact_out : (s.setArgHact v).out = s.out := rfl
@[simp] theorem State.setArgHact_dGroup : (s.setArgHact v).dGroup = s.dGroup := rfl
@[simp] theorem State.setArgHact_uGroup : (s.setArgHact v).uGroup = s.uGroup := rfl
@[simp] theorem State.setArgHact_pending : (s.setArgHact v).pending = s.pending := rfl
@[simp] theorem State.setArgHact_responses : (s.setArgHact v).responses = s.responses := rfl
@[simp] theorem State.setArgHact_faultLog : (s.setArgHact v).faultLog = s.faultLog := rfl

end SetArgHact

section SetArgVact

variable (s : State) (v : Word)

@[simp] theorem State.setArgVact_cfg : (s.setArgVact v).cfg = s.cfg := rfl
@[simp] theorem State.setArgVact_code : (s.setArgVact v).code = s.code := rfl
@[simp] theorem State.setArgVact_field : (s.setArgVact v).field = s.field := rfl
@[simp] theorem State.setArgVact_lastOp : (s.setArgVact v).lastOp = s.lastOp := rfl
@[simp] theorem State.setArgVact_info : (s.setArgVact v).info = s.info := rfl
@[simp] theorem State.setArgVact_argHact : (s.setArgVact v).argHact = s.argHact := rfl
@[simp] theorem State.setArgVact_argVact : (s.setArgVact v).argVact = v := rfl
@[simp] theorem State.setArgVact_argRate : (s.setArgVact v).argRate = s.argRate := rfl
@[simp] theorem State.setArgVact_inLen : (s.setArgVact v).inLen = s.inLen := rfl
@[simp] theorem State.setArgVact_inBuf : (s.setArgVact v).inBuf = s.inBuf := rfl
@[simp] theorem State.setArgVact_out : (s.setArgVact v).out = s.out := rfl
@[simp] theorem State.setArgVact_dGroup : (s.setArgVact v).dGroup = s.dGroup := rfl
@[simp] theorem State.setArgVact_uGroup : (s.setArgVact v).uGroup = s.uGroup := rfl
@[simp] theorem State.setArgVact_pending : (s.setArgVact v).pending = s.pending := rfl
@[simp] theorem State.setArgVact_responses : (s.setArgVact v).responses = s.responses := rfl
@[simp] theorem State.setArgVact_faultLog : (s.setArgVact v).faultLog = s.faultLog := rfl

end SetArgVact

section SetArgRate

variable (s : State) (v : Word)

@[simp] theorem State.setArgRate_cfg : (s.setArgRate v).cfg = s.cfg := rfl
@[simp] theorem State.setArgRate_code : (s.setArgRate v).code = s.code := rfl
@[simp] theorem State.setArgRate_field : (s.setArgRate v).field = s.field := rfl
@[simp] theorem State.setArgRate_lastOp : (s.setArgRate v).lastOp = s.lastOp := rfl
@[simp] theorem State.setArgRate_info : (s.setArgRate v).info = s.info := rfl
@[simp] theorem State.setArgRate_argHact : (s.setArgRate v).argHact = s.argHact := rfl
@[simp] theorem State.setArgRate_argVact : (s.setArgRate v).argVact = s.argVact := rfl
@[simp] theorem State.setArgRate_argRate : (s.setArgRate v).argRate = v := rfl
@[simp] theorem State.setArgRate_inLen : (s.setArgRate v).inLen = s.inLen := rfl
@[simp] theorem State.setArgRate_inBuf : (s.setArgRate v).inBuf = s.inBuf := rfl
@[simp] theorem State.setArgRate_out : (s.setArgRate v).out = s.out := rfl
@[simp] theorem State.setArgRate_dGroup : (s.setArgRate v).dGroup = s.dGroup := rfl
@[simp] theorem State.setArgRate_uGroup : (s.setArgRate v).uGroup = s.uGroup := rfl
@[simp] theorem State.setArgRate_pending : (s.setArgRate v).pending = s.pending := rfl
@[simp] theorem State.setArgRate_responses : (s.setArgRate v).responses = s.responses := rfl
@[simp] theorem State.setArgRate_faultLog : (s.setArgRate v).faultLog = s.faultLog := rfl

end SetArgRate

section SetInLen

variable (s : State) (v : Word)

@[simp] theorem State.setInLen_cfg : (s.setInLen v).cfg = s.cfg := rfl
@[simp] theorem State.setInLen_code : (s.setInLen v).code = s.code := rfl
@[simp] theorem State.setInLen_field : (s.setInLen v).field = s.field := rfl
@[simp] theorem State.setInLen_lastOp : (s.setInLen v).lastOp = s.lastOp := rfl
@[simp] theorem State.setInLen_info : (s.setInLen v).info = s.info := rfl
@[simp] theorem State.setInLen_argHact : (s.setInLen v).argHact = s.argHact := rfl
@[simp] theorem State.setInLen_argVact : (s.setInLen v).argVact = s.argVact := rfl
@[simp] theorem State.setInLen_argRate : (s.setInLen v).argRate = s.argRate := rfl
@[simp] theorem State.setInLen_inLen : (s.setInLen v).inLen = v := rfl
@[simp] theorem State.setInLen_inBuf : (s.setInLen v).inBuf = s.inBuf := rfl
@[simp] theorem State.setInLen_out : (s.setInLen v).out = s.out := rfl
@[simp] theorem State.setInLen_dGroup : (s.setInLen v).dGroup = s.dGroup := rfl
@[simp] theorem State.setInLen_uGroup : (s.setInLen v).uGroup = s.uGroup := rfl
@[simp] theorem State.setInLen_pending : (s.setInLen v).pending = s.pending := rfl
@[simp] theorem State.setInLen_responses : (s.setInLen v).responses = s.responses := rfl
@[simp] theorem State.setInLen_faultLog : (s.setInLen v).faultLog = s.faultLog := rfl

end SetInLen

section SetInBuf

variable (s : State) (v : Vector Byte 128)

@[simp] theorem State.setInBuf_cfg : (s.setInBuf v).cfg = s.cfg := rfl
@[simp] theorem State.setInBuf_code : (s.setInBuf v).code = s.code := rfl
@[simp] theorem State.setInBuf_field : (s.setInBuf v).field = s.field := rfl
@[simp] theorem State.setInBuf_lastOp : (s.setInBuf v).lastOp = s.lastOp := rfl
@[simp] theorem State.setInBuf_info : (s.setInBuf v).info = s.info := rfl
@[simp] theorem State.setInBuf_argHact : (s.setInBuf v).argHact = s.argHact := rfl
@[simp] theorem State.setInBuf_argVact : (s.setInBuf v).argVact = s.argVact := rfl
@[simp] theorem State.setInBuf_argRate : (s.setInBuf v).argRate = s.argRate := rfl
@[simp] theorem State.setInBuf_inLen : (s.setInBuf v).inLen = s.inLen := rfl
@[simp] theorem State.setInBuf_inBuf : (s.setInBuf v).inBuf = v := rfl
@[simp] theorem State.setInBuf_out : (s.setInBuf v).out = s.out := rfl
@[simp] theorem State.setInBuf_dGroup : (s.setInBuf v).dGroup = s.dGroup := rfl
@[simp] theorem State.setInBuf_uGroup : (s.setInBuf v).uGroup = s.uGroup := rfl
@[simp] theorem State.setInBuf_pending : (s.setInBuf v).pending = s.pending := rfl
@[simp] theorem State.setInBuf_responses : (s.setInBuf v).responses = s.responses := rfl
@[simp] theorem State.setInBuf_faultLog : (s.setInBuf v).faultLog = s.faultLog := rfl

end SetInBuf

section SetOut

variable (s : State) (v : Option (Vector Byte 128))

@[simp] theorem State.setOut_cfg : (s.setOut v).cfg = s.cfg := rfl
@[simp] theorem State.setOut_code : (s.setOut v).code = s.code := rfl
@[simp] theorem State.setOut_field : (s.setOut v).field = s.field := rfl
@[simp] theorem State.setOut_lastOp : (s.setOut v).lastOp = s.lastOp := rfl
@[simp] theorem State.setOut_info : (s.setOut v).info = s.info := rfl
@[simp] theorem State.setOut_argHact : (s.setOut v).argHact = s.argHact := rfl
@[simp] theorem State.setOut_argVact : (s.setOut v).argVact = s.argVact := rfl
@[simp] theorem State.setOut_argRate : (s.setOut v).argRate = s.argRate := rfl
@[simp] theorem State.setOut_inLen : (s.setOut v).inLen = s.inLen := rfl
@[simp] theorem State.setOut_inBuf : (s.setOut v).inBuf = s.inBuf := rfl
@[simp] theorem State.setOut_out : (s.setOut v).out = v := rfl
@[simp] theorem State.setOut_dGroup : (s.setOut v).dGroup = s.dGroup := rfl
@[simp] theorem State.setOut_uGroup : (s.setOut v).uGroup = s.uGroup := rfl
@[simp] theorem State.setOut_pending : (s.setOut v).pending = s.pending := rfl
@[simp] theorem State.setOut_responses : (s.setOut v).responses = s.responses := rfl
@[simp] theorem State.setOut_faultLog : (s.setOut v).faultLog = s.faultLog := rfl

end SetOut

section SetD

variable (s : State) (v : Option DGroup)

@[simp] theorem State.setD_cfg : (s.setD v).cfg = s.cfg := rfl
@[simp] theorem State.setD_code : (s.setD v).code = s.code := rfl
@[simp] theorem State.setD_field : (s.setD v).field = s.field := rfl
@[simp] theorem State.setD_lastOp : (s.setD v).lastOp = s.lastOp := rfl
@[simp] theorem State.setD_info : (s.setD v).info = s.info := rfl
@[simp] theorem State.setD_argHact : (s.setD v).argHact = s.argHact := rfl
@[simp] theorem State.setD_argVact : (s.setD v).argVact = s.argVact := rfl
@[simp] theorem State.setD_argRate : (s.setD v).argRate = s.argRate := rfl
@[simp] theorem State.setD_inLen : (s.setD v).inLen = s.inLen := rfl
@[simp] theorem State.setD_inBuf : (s.setD v).inBuf = s.inBuf := rfl
@[simp] theorem State.setD_out : (s.setD v).out = s.out := rfl
@[simp] theorem State.setD_dGroup : (s.setD v).dGroup = v := rfl
@[simp] theorem State.setD_uGroup : (s.setD v).uGroup = s.uGroup := rfl
@[simp] theorem State.setD_pending : (s.setD v).pending = s.pending := rfl
@[simp] theorem State.setD_responses : (s.setD v).responses = s.responses := rfl
@[simp] theorem State.setD_faultLog : (s.setD v).faultLog = s.faultLog := rfl

end SetD

section SetU

variable (s : State) (v : Option UGroup)

@[simp] theorem State.setU_cfg : (s.setU v).cfg = s.cfg := rfl
@[simp] theorem State.setU_code : (s.setU v).code = s.code := rfl
@[simp] theorem State.setU_field : (s.setU v).field = s.field := rfl
@[simp] theorem State.setU_lastOp : (s.setU v).lastOp = s.lastOp := rfl
@[simp] theorem State.setU_info : (s.setU v).info = s.info := rfl
@[simp] theorem State.setU_argHact : (s.setU v).argHact = s.argHact := rfl
@[simp] theorem State.setU_argVact : (s.setU v).argVact = s.argVact := rfl
@[simp] theorem State.setU_argRate : (s.setU v).argRate = s.argRate := rfl
@[simp] theorem State.setU_inLen : (s.setU v).inLen = s.inLen := rfl
@[simp] theorem State.setU_inBuf : (s.setU v).inBuf = s.inBuf := rfl
@[simp] theorem State.setU_out : (s.setU v).out = s.out := rfl
@[simp] theorem State.setU_dGroup : (s.setU v).dGroup = s.dGroup := rfl
@[simp] theorem State.setU_uGroup : (s.setU v).uGroup = v := rfl
@[simp] theorem State.setU_pending : (s.setU v).pending = s.pending := rfl
@[simp] theorem State.setU_responses : (s.setU v).responses = s.responses := rfl
@[simp] theorem State.setU_faultLog : (s.setU v).faultLog = s.faultLog := rfl

end SetU

section SetPending

variable (s : State) (v : List HostInput)

@[simp] theorem State.setPending_cfg : (s.setPending v).cfg = s.cfg := rfl
@[simp] theorem State.setPending_code : (s.setPending v).code = s.code := rfl
@[simp] theorem State.setPending_field : (s.setPending v).field = s.field := rfl
@[simp] theorem State.setPending_lastOp : (s.setPending v).lastOp = s.lastOp := rfl
@[simp] theorem State.setPending_info : (s.setPending v).info = s.info := rfl
@[simp] theorem State.setPending_argHact : (s.setPending v).argHact = s.argHact := rfl
@[simp] theorem State.setPending_argVact : (s.setPending v).argVact = s.argVact := rfl
@[simp] theorem State.setPending_argRate : (s.setPending v).argRate = s.argRate := rfl
@[simp] theorem State.setPending_inLen : (s.setPending v).inLen = s.inLen := rfl
@[simp] theorem State.setPending_inBuf : (s.setPending v).inBuf = s.inBuf := rfl
@[simp] theorem State.setPending_out : (s.setPending v).out = s.out := rfl
@[simp] theorem State.setPending_dGroup : (s.setPending v).dGroup = s.dGroup := rfl
@[simp] theorem State.setPending_uGroup : (s.setPending v).uGroup = s.uGroup := rfl
@[simp] theorem State.setPending_pending : (s.setPending v).pending = v := rfl
@[simp] theorem State.setPending_responses : (s.setPending v).responses = s.responses := rfl
@[simp] theorem State.setPending_faultLog : (s.setPending v).faultLog = s.faultLog := rfl

end SetPending

section PushResponse

variable (s : State) (v : Response)

@[simp] theorem State.pushResponse_cfg : (s.pushResponse v).cfg = s.cfg := rfl
@[simp] theorem State.pushResponse_code : (s.pushResponse v).code = s.code := rfl
@[simp] theorem State.pushResponse_field : (s.pushResponse v).field = s.field := rfl
@[simp] theorem State.pushResponse_lastOp : (s.pushResponse v).lastOp = s.lastOp := rfl
@[simp] theorem State.pushResponse_info : (s.pushResponse v).info = s.info := rfl
@[simp] theorem State.pushResponse_argHact : (s.pushResponse v).argHact = s.argHact := rfl
@[simp] theorem State.pushResponse_argVact : (s.pushResponse v).argVact = s.argVact := rfl
@[simp] theorem State.pushResponse_argRate : (s.pushResponse v).argRate = s.argRate := rfl
@[simp] theorem State.pushResponse_inLen : (s.pushResponse v).inLen = s.inLen := rfl
@[simp] theorem State.pushResponse_inBuf : (s.pushResponse v).inBuf = s.inBuf := rfl
@[simp] theorem State.pushResponse_out : (s.pushResponse v).out = s.out := rfl
@[simp] theorem State.pushResponse_dGroup : (s.pushResponse v).dGroup = s.dGroup := rfl
@[simp] theorem State.pushResponse_uGroup : (s.pushResponse v).uGroup = s.uGroup := rfl
@[simp] theorem State.pushResponse_pending : (s.pushResponse v).pending = s.pending := rfl
@[simp] theorem State.pushResponse_responses : (s.pushResponse v).responses = s.responses ++ [v] := rfl
@[simp] theorem State.pushResponse_faultLog : (s.pushResponse v).faultLog = s.faultLog := rfl

end PushResponse

section PushFault

variable (s : State) (v : Fault)

@[simp] theorem State.pushFault_cfg : (s.pushFault v).cfg = s.cfg := rfl
@[simp] theorem State.pushFault_code : (s.pushFault v).code = s.code := rfl
@[simp] theorem State.pushFault_field : (s.pushFault v).field = s.field := rfl
@[simp] theorem State.pushFault_lastOp : (s.pushFault v).lastOp = s.lastOp := rfl
@[simp] theorem State.pushFault_info : (s.pushFault v).info = s.info := rfl
@[simp] theorem State.pushFault_argHact : (s.pushFault v).argHact = s.argHact := rfl
@[simp] theorem State.pushFault_argVact : (s.pushFault v).argVact = s.argVact := rfl
@[simp] theorem State.pushFault_argRate : (s.pushFault v).argRate = s.argRate := rfl
@[simp] theorem State.pushFault_inLen : (s.pushFault v).inLen = s.inLen := rfl
@[simp] theorem State.pushFault_inBuf : (s.pushFault v).inBuf = s.inBuf := rfl
@[simp] theorem State.pushFault_out : (s.pushFault v).out = s.out := rfl
@[simp] theorem State.pushFault_dGroup : (s.pushFault v).dGroup = s.dGroup := rfl
@[simp] theorem State.pushFault_uGroup : (s.pushFault v).uGroup = s.uGroup := rfl
@[simp] theorem State.pushFault_pending : (s.pushFault v).pending = s.pending := rfl
@[simp] theorem State.pushFault_responses : (s.pushFault v).responses = s.responses := rfl
@[simp] theorem State.pushFault_faultLog : (s.pushFault v).faultLog = s.faultLog ++ [v] := rfl

end PushFault

end Sys2Proof.Machine
end

