-- ==== Sys2Proof/Laws/Ops.lean ====
section
/-! SUPPORT. What the shared operations do, said once: the ends of a command, the bus error, reset, the buffer windows
and the first failing check of each command. -/

namespace Sys2Proof.Machine

/-- `raise` writes the code, the field and `INFO`, and nothing else (R162). -/
theorem State.raise_eq (s : State) (e : CommandError) :
    s.raise e = { s with code := e.code, field := e.field, info := e.info } := rfl

/-- `complete OK` writes the code, the field and `INFO`, and nothing else (R163). -/
theorem State.complete_eq (s : State) :
    s.complete = { s with code := .ok, field := .noField, info := 0 } := rfl

/-- IllegalCommand writes the four result fields and nothing else (R164). -/
theorem State.illegalCommand_eq (s : State) (op : BitVec 4) (w : Word) :
    s.illegalCommand op w = { s with lastOp := op, code := .illegalCommand, field := .noField, info := w } := rfl

/-- A bus error adds one response and one fault entry, and nothing else (R56). -/
theorem State.busError_eq (s : State) (off : BitVec 12) :
    s.busError off = { s with responses := s.responses ++ [.busError],
                              faultLog := s.faultLog ++ [.busError (s.cfg.base + off.toNat)] } := rfl

/-- Reset forgets everything but the configuration, the host's inputs and the run's logs (R180). -/
theorem State.resetBlock_eq (s : State) :
    s.resetBlock = { State.resetWith s.cfg with
      pending := s.pending, responses := s.responses, faultLog := s.faultLog } := rfl

/-- The byte of a word that a window write takes for byte `i` of its four (R52). -/
theorem setBufWord_getElem (b : Vector Byte 128) (k : Fin 32) (v : Word) (i : Nat) (hi : i < 128) :
    (setBufWord b k v)[i] = if i / 4 = k.val then v.extractLsb' (8 * (i % 4)) 8 else b[i] := by
  obtain ⟨k, hk⟩ := k
  simp only [setBufWord, Vector.getElem_set]
  by_cases h : i / 4 = k
  · rcases (by omega : i = 4 * k ∨ i = 4 * k + 1 ∨ i = 4 * k + 2 ∨ i = 4 * k + 3) with rfl | rfl | rfl | rfl <;>
      simp [h, Nat.add_mod]
  · rw [if_neg (by omega), if_neg (by omega), if_neg (by omega), if_neg (by omega), if_neg h]

/-- A byte outside the word written keeps its value (R52). -/
theorem setBufWord_other (b : Vector Byte 128) (k : Fin 32) (v : Word) (i : Nat) (hi : i < 128)
    (h : i / 4 ≠ k.val) : (setBufWord b k v)[i] = b[i] := by
  rw [setBufWord_getElem, if_neg h]

/-- `rate_ok` compares the whole 32-bit value with the entries (R104). -/
theorem rateOk_iff (c : Cfg) (r : Word) : rateOk c r = true ↔ r.toNat ∈ c.rateSet := by
  simp [rateOk]

/-- `clkFits` is the 16-bit check (R105). -/
theorem clkFits_iff (c : Nat) : clkFits c = true ↔ c ≤ 65535 := by
  unfold clkFits clockMax; exact decide_eq_true_iff

/-- DERIVE accepts exactly the supported rates with both counts at most 65535 (R105). -/
theorem deriveCheck_none_iff (c : Cfg) (h v r : Word) :
    deriveCheck c h v r = none ↔ r.toNat ∈ c.rateSet ∧ h.toNat ≤ 65535 ∧ v.toNat ≤ 65535 := by
  have hr := rateOk_iff c r
  unfold deriveCheck deriveActiveMax
  split_ifs <;> simp_all

/-- DERIVE raises the first failing check of R166, and no other error (R105). -/
theorem deriveCheck_some (c : Cfg) (h v r : Word) (e : CommandError) (he : deriveCheck c h v r = some e) :
    (r.toNat ∉ c.rateSet ∧ e = ⟨.unsupportedRefreshRate, .noField, r⟩) ∨
    (r.toNat ∈ c.rateSet ∧ 65535 < h.toNat ∧ e = ⟨.fieldOverflow, .hActive, h⟩) ∨
    (r.toNat ∈ c.rateSet ∧ h.toNat ≤ 65535 ∧ 65535 < v.toNat ∧ e = ⟨.fieldOverflow, .vActive, v⟩) := by
  have hr := rateOk_iff c r
  unfold deriveCheck deriveActiveMax at he
  split_ifs at he <;> simp_all

/-- ENCODE accepts exactly the supported rates with both counts at most 4095 and a clock of 16 bits (R126). -/
theorem encodeCheck_none_iff (c : Cfg) (h v r : Word) :
    encodeCheck c h v r = none ↔ r.toNat ∈ c.rateSet ∧ h.toNat ≤ 4095 ∧ v.toNat ≤ 4095 ∧
      clk10k c.clockRounding h.toNat v.toNat r.toNat ≤ 65535 := by
  have hr := rateOk_iff c r
  unfold encodeCheck activeMax clockMax
  split_ifs <;> simp_all

/-- ENCODE raises the first failing check of R166, and no other error (R126). -/
theorem encodeCheck_some (c : Cfg) (h v r : Word) (e : CommandError) (he : encodeCheck c h v r = some e) :
    (r.toNat ∉ c.rateSet ∧ e = ⟨.unsupportedRefreshRate, .noField, r⟩) ∨
    (r.toNat ∈ c.rateSet ∧ 4095 < h.toNat ∧ e = ⟨.fieldOverflow, .hActive, h⟩) ∨
    (r.toNat ∈ c.rateSet ∧ h.toNat ≤ 4095 ∧ 4095 < v.toNat ∧ e = ⟨.fieldOverflow, .vActive, v⟩) ∨
    (r.toNat ∈ c.rateSet ∧ h.toNat ≤ 4095 ∧ v.toNat ≤ 4095 ∧
      65535 < clk10k c.clockRounding h.toNat v.toNat r.toNat ∧
      e = ⟨.fieldOverflow, .pixelClock, BitVec.ofNat 32 (clk10k c.clockRounding h.toNat v.toNat r.toNat)⟩) := by
  have hr := rateOk_iff c r
  unfold encodeCheck activeMax clockMax at he
  split_ifs at he <;> simp_all

/-- A presented block passes exactly when its three checks do (R140). -/
theorem State.inputCheck_none_iff (s : State) :
    s.inputCheck = none ↔ s.lenOk = true ∧ s.hdrOk = true ∧ s.inSum = 0 := by
  unfold State.inputCheck
  split_ifs <;> simp_all

/-- A presented block that fails is reported by its first failing check, and no other error (R140, R166). -/
theorem State.inputCheck_some (s : State) (e : CommandError) (he : s.inputCheck = some e) :
    (s.lenOk = false ∧ e = ⟨.lengthMismatch, .noField, s.inLen⟩) ∨
    (s.lenOk = true ∧ s.hdrOk = false ∧ e = ⟨.headerMismatch, .noField, 0⟩) ∨
    (s.lenOk = true ∧ s.hdrOk = true ∧ s.inSum ≠ 0 ∧
      e = ⟨.checksumMismatch, .noField, BitVec.ofNat 32 s.inSum⟩) := by
  unfold State.inputCheck at he
  split_ifs at he <;> simp_all

/-- The length check is on the whole 32-bit `IN_LEN` (R141). -/
theorem State.lenOk_iff (s : State) : s.lenOk = true ↔ s.inLen = 128 := by
  unfold State.lenOk blockLen; rw [decide_eq_true_iff, ← BitVec.toNat_inj]; rfl

/-- The reported sum is a byte (R143). -/
theorem State.inSum_lt (s : State) : s.inSum < 256 := Nat.mod_lt _ (by decide)

/-- The bytes ENCODE writes, as a list: the body and then its checksum (R126). -/
theorem outBlock_toList (c : Cfg) (h v clk : Nat) :
    (outBlock c h v clk).toList = buildBody c h v clk ++ [checksum (buildBody c h v clk)] := rfl

end Sys2Proof.Machine
end

