-- ==== Sys2Proof/Laws/Blocks.lean ====
section
/-! SUPPORT. What a 128-byte block holds: the model's sum and header check against the position-wise ones of Safety.lean,
and the bytes of the block ENCODE writes. -/

namespace Sys2Proof.Machine

/-- A byte of a block, read from its list. -/
theorem getElem_of_toList {b : Vector Byte 128} {l : List Byte} (h : b.toList = l) (i : Nat) (hi : i < 128) :
    b[i] = l[i]'(by rw [← h, Vector.length_toList]; exact hi) := by
  subst h; exact (Vector.getElem_toList (by simpa using hi)).symm

/-- The sum over the listed bytes is the sum over the positions (R10, R143). -/
theorem byteSum_toList (b : Vector Byte 128) : byteSum b.toList = blockSum b := by
  have h : b.toList.map (·.toNat) = List.ofFn fun i : Fin 128 => b[i.val].toNat := by
    apply List.ext_getElem
    · simp only [List.length_map, Vector.length_toList, List.length_ofFn]
    · intro i h1 h2
      simp only [List.getElem_map, Vector.getElem_toList, List.getElem_ofFn]
  rw [byteSum, h, List.sum_ofFn, blockSum]

/-- The header comparison of R142, position by position. -/
theorem take_eq_header_iff (b : Vector Byte 128) : b.toList.take 8 = header ↔ hasHeader b := by
  have hl : b.toList.take 8 = [b[0], b[1], b[2], b[3], b[4], b[5], b[6], b[7]] := by
    apply List.ext_getElem
    · simp
    · intro i h1 h2
      simp only [List.length_cons, List.length_nil] at h2
      interval_cases i <;> simp
  rw [hl]
  simp only [header, hasHeader, List.cons.injEq, and_true]
  constructor
  · rintro ⟨h0, h1, h2, h3, h4, h5, h6, h7⟩ i
    fin_cases i <;> simp [h0, h1, h2, h3, h4, h5, h6, h7]
  · intro h
    exact ⟨by simpa using h 0, by simpa using h 1, by simpa using h 2, by simpa using h 3,
      by simpa using h 4, by simpa using h 5, by simpa using h 6, by simpa using h 7⟩

theorem State.hdrOk_iff (s : State) : s.hdrOk = true ↔ hasHeader s.inBuf := by
  rw [State.hdrOk, decide_eq_true_iff, take_eq_header_iff]

theorem State.inSum_eq (s : State) : s.inSum = blockSum s.inBuf % 256 := by
  rw [State.inSum, byteSum_toList]

/-- A presented block passes exactly when it is valid (R140). -/
theorem State.inputCheck_none_iff_valid (s : State) : s.inputCheck = none ↔ s.inputValid := by
  rw [State.inputCheck_none_iff, State.lenOk_iff, State.hdrOk_iff, State.inSum_eq, State.inputValid]

/-- Block bytes 0..53 are 54 bytes (R74). -/
theorem bodyBefore_length (p : Profile) : (bodyBefore p).length = 54 := by
  simp [bodyBefore, header]

/-- The packed fields are DTD bytes 0..11 (R80). -/
theorem dtdFields_length (c : Cfg) (h v clk : Nat) : (dtdFields c h v clk).length = 12 := by
  simp [dtdFields, packClock, packPair, syncBytes, packSync]

/-- The block's list, cut at the packed fields (R124, R126). -/
theorem outBlock_split (c : Cfg) (h v clk : Nat) :
    (outBlock c h v clk).toList = bodyBefore c.profile ++ (dtdFields c h v clk ++
      (c.profile.dtdTail.toList ++ bodyAfter c.profile ++ [checksum (buildBody c h v clk)])) := by
  simp [outBlock_toList, buildBody, buildDtd, List.append_assoc]

/-- Block byte `54 + j` is byte `j` of the packed fields (R80, R123). -/
theorem outBlock_field (c : Cfg) (h v clk j : Nat) (hj : j < 12) :
    (outBlock c h v clk)[54 + j]'(by omega) = (dtdFields c h v clk)[j]'(by rw [dtdFields_length]; exact hj) := by
  rw [getElem_of_toList (outBlock_split c h v clk) (54 + j) (by omega)]
  rw [List.getElem_append_right (by rw [bodyBefore_length]; omega),
    List.getElem_append_left (by rw [bodyBefore_length, dtdFields_length]; omega)]
  congr 1
  rw [bodyBefore_length]; omega

/-- Bytes 0..53 of the block (R74). -/
theorem outBlock_take (c : Cfg) (h v clk : Nat) : (outBlock c h v clk).toList.take 54 = bodyBefore c.profile := by
  rw [outBlock_split, List.take_left' (bodyBefore_length _)]

/-- Bytes 66..126 of the block (R74). -/
theorem outBlock_after (c : Cfg) (h v clk : Nat) :
    ((outBlock c h v clk).toList.drop 66).take 61 = c.profile.dtdTail.toList ++ bodyAfter c.profile := by
  rw [outBlock_split, ← List.append_assoc, List.drop_left' (by simp [bodyBefore_length, dtdFields_length]),
    List.take_left' (by simp [bodyAfter])]

end Sys2Proof.Machine
end

