-- ==== Sys2Proof/Laws/Commands.lean ====
section
/-! SUPPORT. What each command can do, said once: it ends in the error its check raises, or it completes. -/

namespace Sys2Proof.Machine

theorem execEncode_error (s : State) (e : CommandError)
    (he : encodeCheck s.cfg s.argHact s.argVact s.argRate = some e) :
    execEncode s = .next (((s.setLastOp 1).setOut none).raise e) := by
  simp [execEncode, he, opcode]

theorem execEncode_ok (s : State) (he : encodeCheck s.cfg s.argHact s.argVact s.argRate = none) :
    execEncode s = .next ((s.setLastOp 1).setOut (some (outBlock s.cfg s.argHact.toNat s.argVact.toNat
      (clk10k s.cfg.clockRounding s.argHact.toNat s.argVact.toNat s.argRate.toNat)))).complete := by
  simp [execEncode, he, opcode, State.setOut]

theorem execDerive_error (s : State) (e : CommandError)
    (he : deriveCheck s.cfg s.argHact s.argVact s.argRate = some e) :
    execDerive s = .next (((s.setLastOp 3).setD none).raise e) := by
  simp [execDerive, he, opcode]

theorem execDerive_ok (s : State) (he : deriveCheck s.cfg s.argHact s.argVact s.argRate = none) :
    execDerive s = .next ((s.setLastOp 3).setD (some (derivedGroup s.cfg.clockRounding s.argHact.toNat
      s.argVact.toNat s.argRate.toNat))).complete := by
  simp [execDerive, he, opcode, State.setD]

theorem execValidate_error (s : State) (e : CommandError) (he : s.inputCheck = some e) :
    execValidate s = .next ((s.setLastOp 2).raise e) := by
  simp [execValidate, he, opcode]

theorem execValidate_ok (s : State) (he : s.inputCheck = none) :
    execValidate s = .next (s.setLastOp 2).complete := by
  simp [execValidate, he, opcode]

theorem execUnpack_error (s : State) (e : CommandError) (he : s.inputCheck = some e) :
    execUnpack s = .next (((s.setLastOp 4).setU none).raise e) := by
  simp [execUnpack, he, opcode]

theorem execUnpack_ok (s : State) (he : s.inputCheck = none) :
    execUnpack s = .next ((s.setLastOp 4).setU (some (unpackDtd (dtdByte s.inBuf)))).complete := by
  simp [execUnpack, he, opcode, State.setU]

/-- What ENCODE can do (R126). -/
theorem execEncode_cases (s : State) :
    (∃ e, encodeCheck s.cfg s.argHact s.argVact s.argRate = some e ∧
      execEncode s = .next (((s.setLastOp 1).setOut none).raise e)) ∨
    (encodeCheck s.cfg s.argHact s.argVact s.argRate = none ∧
      execEncode s = .next ((s.setLastOp 1).setOut (some (outBlock s.cfg s.argHact.toNat s.argVact.toNat
        (clk10k s.cfg.clockRounding s.argHact.toNat s.argVact.toNat s.argRate.toNat)))).complete) := by
  cases he : encodeCheck s.cfg s.argHact s.argVact s.argRate with
  | some e => exact .inl ⟨e, rfl, execEncode_error s e he⟩
  | none => exact .inr ⟨rfl, execEncode_ok s he⟩

/-- What DERIVE can do (R105). -/
theorem execDerive_cases (s : State) :
    (∃ e, deriveCheck s.cfg s.argHact s.argVact s.argRate = some e ∧
      execDerive s = .next (((s.setLastOp 3).setD none).raise e)) ∨
    (deriveCheck s.cfg s.argHact s.argVact s.argRate = none ∧
      execDerive s = .next ((s.setLastOp 3).setD (some (derivedGroup s.cfg.clockRounding s.argHact.toNat
        s.argVact.toNat s.argRate.toNat))).complete) := by
  cases he : deriveCheck s.cfg s.argHact s.argVact s.argRate with
  | some e => exact .inl ⟨e, rfl, execDerive_error s e he⟩
  | none => exact .inr ⟨rfl, execDerive_ok s he⟩

/-- What VALIDATE can do (R140). -/
theorem execValidate_cases (s : State) :
    (∃ e, s.inputCheck = some e ∧ execValidate s = .next ((s.setLastOp 2).raise e)) ∨
    (s.inputCheck = none ∧ execValidate s = .next (s.setLastOp 2).complete) := by
  cases he : s.inputCheck with
  | some e => exact .inl ⟨e, rfl, execValidate_error s e he⟩
  | none => exact .inr ⟨rfl, execValidate_ok s he⟩

/-- What UNPACK can do (R151). -/
theorem execUnpack_cases (s : State) :
    (∃ e, s.inputCheck = some e ∧ execUnpack s = .next (((s.setLastOp 4).setU none).raise e)) ∨
    (s.inputCheck = none ∧
      execUnpack s = .next ((s.setLastOp 4).setU (some (unpackDtd (dtdByte s.inBuf)))).complete) := by
  cases he : s.inputCheck with
  | some e => exact .inl ⟨e, rfl, execUnpack_error s e he⟩
  | none => exact .inr ⟨rfl, execUnpack_ok s he⟩

end Sys2Proof.Machine
end

