-- ==== Sys2Proof/Laws/Bus.lean ====
section
/-! SUPPORT. What one step of the bus can do, said once: the step takes the next input, and each input has one of a
few effects. -/

namespace Sys2Proof.Machine

/-- A step that answers a next state ran under a well-formed configuration, and was idle or delivered the first
input. -/
theorem step_cases {s t : State} (h : step s = .next t) :
    s.cfg.wellFormed = true ∧
      ((s.pending = [] ∧ t = s) ∨ ∃ x rest, s.pending = x :: rest ∧ deliver x (s.setPending rest) = .next t) := by
  by_cases hw : s.cfg.wellFormed = true
  · cases hp : s.pending with
    | nil => simp [step, deliverNext, hw, hp] at h; exact ⟨hw, .inl ⟨rfl, h.symm⟩⟩
    | cons x rest => simp [step, deliverNext, hw, hp] at h; exact ⟨hw, .inr ⟨x, rest, rfl, h⟩⟩
  · simp [step, deliverNext, hw] at h

/-- Under a well-formed configuration a step with an input delivers it. -/
theorem step_deliver {s : State} {x : HostInput} {rest : List HostInput} (hw : s.cfg.wellFormed = true)
    (hp : s.pending = x :: rest) : step s = deliver x (s.setPending rest) := by
  simp [step, deliverNext, hw, hp]

/-- What a read can do (R56, R57): it answers the register's value, or it is a bus error. -/
theorem deliverRead_cases (off : BitVec 12) (n : Nat) (s : State) :
    (∃ r v, busTarget off n = some r ∧ s.readReg r = some v ∧
      deliverRead off n s = .next (s.pushResponse (.data v))) ∨
    ((∀ r, busTarget off n = some r → s.readReg r = none) ∧ deliverRead off n s = .next (s.busError off)) := by
  cases hb : busTarget off n with
  | none => exact .inr ⟨by simp, by simp [deliverRead, hb]⟩
  | some r =>
    cases hr : s.readReg r with
    | none => exact .inr ⟨by simpa using hr, by simp [deliverRead, hb, hr]⟩
    | some v => exact .inl ⟨r, v, rfl, hr, by simp [deliverRead, hb, hr]⟩

/-- What a write can do (R56, R58): the register's effect, answered, or a bus error. -/
theorem deliverWrite_cases (off : BitVec 12) (n : Nat) (v : Word) (s : State) :
    (∃ r o, busTarget off n = some r ∧ writeReg r v s = some o ∧ deliverWrite off n v s = answerWrite o) ∨
    ((∀ r, busTarget off n = some r → writeReg r v s = none) ∧ deliverWrite off n v s = .next (s.busError off)) := by
  cases hb : busTarget off n with
  | none => exact .inr ⟨by simp, by simp [deliverWrite, hb]⟩
  | some r =>
    cases hr : writeReg r v s with
    | none => exact .inr ⟨by simpa using hr, by simp [deliverWrite, hb, hr]⟩
    | some o => exact .inl ⟨r, o, rfl, hr, by simp [deliverWrite, hb, hr]⟩

/-- A 4-byte write at `CMD`'s offset runs the command and is answered (R58, R63). -/
theorem deliverWrite_cmd (w : Word) (s : State) : deliverWrite 0x000 4 w s = answerWrite (runCommand w s) := by
  have hb : busTarget 0x000 4 = some .cmd := by decide
  simp only [deliverWrite, hb, Option.bind_some, writeReg]

/-- What a register write can do (R58). -/
theorem writeReg_cases {r : Reg} {v : Word} {s : State} {o : Host.Outcome State Fault Refusal}
    (h : writeReg r v s = some o) :
    (r = .cmd ∧ o = runCommand v s) ∨ (r = .argHact ∧ o = .next (s.setArgHact v)) ∨
    (r = .argVact ∧ o = .next (s.setArgVact v)) ∨ (r = .argRate ∧ o = .next (s.setArgRate v)) ∨
    (r = .inLen ∧ o = .next (s.setInLen v)) ∨
    (∃ k, r = .inW k ∧ o = .next (s.setInBuf (setBufWord s.inBuf k v))) := by
  cases r <;> simp_all [writeReg]

/-- What a write to `CMD` can do (R72): the command decoded, or IllegalCommand. -/
theorem runCommand_cases (w : Word) (s : State) :
    (∃ i, decode w = .command i ∧ runCommand w s = exec i s) ∨
    ((∀ i, decode w ≠ .command i) ∧ runCommand w s = .next (s.illegalCommand (opField w) w)) := by
  unfold runCommand
  cases h : decode w with
  | command i => exact .inl ⟨i, rfl, rfl⟩
  | reservedBits => exact .inr ⟨by simp, rfl⟩
  | reservedOpcode => exact .inr ⟨by simp, rfl⟩

/-- The access reaches the register mapped at an aligned offset, at size 4 (R54, R55). -/
theorem busTarget_some_iff (off : BitVec 12) (n : Nat) (r : Reg) :
    busTarget off n = some r ↔ n = 4 ∧ off.toNat % 4 = 0 ∧ regAt off = some r := by
  unfold busTarget
  split_ifs <;> simp_all

/-- An index into an array of 32 words is the quotient of the offset's distance from its start. -/
theorem wordIndex_some_iff (start n : Nat) (i : Fin 32) :
    wordIndex start n = some i ↔ n = start + 4 * i.val := by
  unfold wordIndex
  split_ifs with h
  · simp only [Option.some.injEq, Fin.ext_iff]; omega
  · simp only [false_iff]; omega

end Sys2Proof.Machine
end

