-- ==== Sys2Proof/Laws/PerInstr.lean ====
section
/-! SUPPORT. Statements for every instruction, as syntax: one lemma per constructor. -/

namespace Sys2Proof.Laws.CommandWord

/-- The command word of an instruction has zero reserved bits (R70), its opcode in bits 3:0, and an opcode that is not
the reserved 0 (R71). -/
def Statement (i : Instr) : Prop :=
  rsvdField (encode i) = 0 ∧ opField (encode i) = opcode i ∧ opcode i ≠ 0

theorem encode : Statement .encode := by unfold Statement; decide
theorem validate : Statement .validate := by unfold Statement; decide
theorem derive : Statement .derive := by unfold Statement; decide
theorem unpack : Statement .unpack := by unfold Statement; decide

end Sys2Proof.Laws.CommandWord
end

