-- ==== Sys2Proof/Laws/Reads.lean ====
section
/-! SUPPORT. The offset of each register leads back to it, so a read at that offset answers what the register reads as. -/

namespace Sys2Proof.Machine

/-- The offsets of the map lie in the window and are word-aligned (R51). -/
theorem regOffset_lt_aligned (r : Reg) : regOffset r < 4096 ∧ regOffset r % 4 = 0 := by
  cases r <;> simp [regOffset] <;> omega

/-- Looking up a register's own offset finds that register (R51). -/
theorem regAt_regOffset (r : Reg) : regAt (BitVec.ofNat 12 (regOffset r)) = some r := by
  cases r with
  | rateTable i => revert i; decide +kernel
  | outW i => revert i; decide +kernel
  | inW i => revert i; decide +kernel
  | _ => decide +kernel

/-- A 4-byte access at a register's offset reaches it (R54, R55). -/
theorem busTarget_regOffset (r : Reg) : busTarget (BitVec.ofNat 12 (regOffset r)) 4 = some r := by
  have := regOffset_lt_aligned r
  rw [busTarget_some_iff, regAt_regOffset, BitVec.toNat_ofNat]
  exact ⟨rfl, by omega, rfl⟩

/-- What a register reads as does not depend on the host's inputs. -/
theorem State.readReg_setPending (s : State) (p : List HostInput) (r : Reg) :
    (s.setPending p).readReg r = s.readReg r := by
  cases r <;> rfl

/-- A read at a register's offset answers its value and changes nothing else (R57). -/
theorem State.reads_of_readReg (s : State) (hw : s.cfg.wellFormed = true) (r : Reg) (v : Word)
    (h : s.readReg r = some v) : s.reads (regOffset r) v := by
  intro rest
  have hr : ({ s with pending := .read (BitVec.ofNat 12 (regOffset r)) 4 :: rest }.setPending rest).readReg r = some v := by
    rw [← h]; cases r <;> rfl
  rw [step_deliver (x := .read (BitVec.ofNat 12 (regOffset r)) 4) (rest := rest) (by exact hw) rfl]
  simp only [deliver, deliverRead, busTarget_regOffset, Option.bind_some, hr]
  rfl

end Sys2Proof.Machine
end

