-- ==== Sys2Proof/Tests/Slice0.lean ====
section
/-! SUPPORT. Tests: the decoder on the words of the opcode map, ill-formed configurations, vectors of
spec/95_test_vectors.md (each test names its vector), and for every statement with hypotheses a witness that meets
them. -/

namespace Sys2Proof.Tests

open Sys2Proof Sys2Proof.Machine

/-! ### Fixtures -/

/-- Fixture Z: every profile byte zero. -/
def profileZ : Profile where
  mfr := Vector.replicate 2 0
  product := Vector.replicate 2 0
  serial := Vector.replicate 4 0
  date := Vector.replicate 2 0
  version := Vector.replicate 2 0
  display := Vector.replicate 5 0
  color := Vector.replicate 10 0
  established := Vector.replicate 3 0
  standard := Vector.replicate 16 0
  dtdTail := Vector.replicate 6 0
  nameDesc := Vector.replicate 18 0
  rangeDesc := Vector.replicate 18 0
  fillerDesc := Vector.replicate 18 0
  extCount := 0

/-- The fixtures default + Z + S, at an arbitrary base. -/
def cfgZS : Cfg where
  rateSet := [60, 120, 144, 240]
  clockRounding := .nearestTiesEven
  hSyncOffset := 48
  hSyncPulse := 32
  vSyncOffset := 3
  vSyncPulse := 10
  profile := profileZ
  base := 0x4000

/-- `cfgZS` with another rate set. -/
def cfgRates (l : List Nat) : Cfg := { cfgZS with rateSet := l }

/-- The block after reset under the fixtures. -/
def fresh : State := State.resetWith cfgZS

/-- After reset, with operands for ENCODE and DERIVE. -/
def args (h v r : Word) : State := ((fresh.setArgHact h).setArgVact v).setArgRate r

/-- After reset, with a presented block. -/
def presented (b : Vector Byte 128) (len : Word) : State := (fresh.setInBuf b).setInLen len

/-- After reset, with the host's next inputs. -/
def sends (l : List HostInput) : State := fresh.setPending l

/-- The smallest valid block (V-V10): the header, zeros, and the checksum 06. -/
def small : Vector Byte 128 :=
  ⟨(([0x00, 0xFF, 0xFF, 0xFF, 0xFF, 0xFF, 0xFF, 0x00] ++ List.replicate 119 0x00 ++ [0x06] : List Byte)).toArray,
    by simp⟩

/-- V-U3: the header, the bytes 54..65 that mix every nibble and bit pair, and the checksum 38. -/
def mixed : Vector Byte 128 :=
  ⟨(([0x00, 0xFF, 0xFF, 0xFF, 0xFF, 0xFF, 0xFF, 0x00] ++ List.replicate 46 0x00 ++
    [0x12, 0x34, 0x56, 0x78, 0x9A, 0xBC, 0xDE, 0xF0, 0xFF, 0xEE, 0xDD, 0xCC] ++ List.replicate 61 0x00 ++
    [0x38] : List Byte)).toArray, by simp⟩

/-- The state an outcome answers. -/
def after (o : Host.Outcome State Fault Refusal) : Option State :=
  match o with
  | .next t => some t
  | .fault _ => none
  | .refused _ => none

/-- The whole `STATUS` word and `INFO` a command leaves. -/
def result (o : Host.Outcome State Fault Refusal) : Option (Word × Word) :=
  (after o).map fun t => (t.statusWord, t.info)

/-! ### The decoder -/

theorem test_decode_encode : decode 0b00000000000000000000000000000001#32 = .command .encode := by decide
theorem test_decode_validate : decode 0b00000000000000000000000000000010#32 = .command .validate := by decide
theorem test_decode_derive : decode 0b00000000000000000000000000000011#32 = .command .derive := by decide
theorem test_decode_unpack : decode 0b00000000000000000000000000000100#32 = .command .unpack := by decide

/-- V-I1 to V-I7. -/
theorem test_decode_rejects :
    decode 0x00000000 = .reservedOpcode ∧ decode 0x00000005 = .reservedOpcode ∧ decode 0x0000000F = .reservedOpcode ∧
      decode 0x00000010 = .reservedBits ∧ decode 0x00000011 = .reservedBits ∧ decode 0x80000002 = .reservedBits ∧
      decode 0xFFFFFFFF = .reservedBits := by decide

/-- The opcode table's rows, numbered as the table numbers their bits. -/
theorem test_table_words :
    decodeTableWord 32 1 = some .encode ∧ decodeTableWord 32 2 = some .validate ∧ decodeTableWord 32 3 = some .derive ∧
      decodeTableWord 32 4 = some .unpack ∧ decodeTableWord 32 5 = none ∧ decodeTableWord 32 17 = none := by decide

/-! ### Ill-formed configurations (R7 item 1) -/

theorem test_wf_default : (cfgRates [60, 120, 144, 240]).wellFormed = true := by decide
theorem test_wf_superset : (cfgRates [1, 60, 75, 120, 144, 240, 65535]).wellFormed = true := by decide
theorem test_wf_too_few : (cfgRates [60, 120, 144]).rateCountOk = false := by decide
theorem test_wf_too_many : (cfgRates ((List.range 33).map (60 + ·))).rateCountOk = false := by decide
theorem test_wf_unordered : (cfgRates [120, 60, 144, 240]).wellFormed = false := by decide
theorem test_wf_repeated : (cfgRates [60, 60, 120, 144, 240]).wellFormed = false := by decide
theorem test_wf_zero_rate : (cfgRates [0, 60, 120, 144, 240]).wellFormed = false := by decide
theorem test_wf_rate_too_large : (cfgRates [60, 120, 144, 240, 65536]).wellFormed = false := by decide
theorem test_wf_base_rate_missing : (cfgRates [60, 90, 120, 144]).wellFormed = false := by decide

/-! ### Vectors of spec/95_test_vectors.md -/

/-- V-E1: the twelve packed bytes, the checksum and the status word. -/
theorem test_encode_1080p60 :
    result (exec .encode (args 1920 1080 60)) = some (0x00001100, 0) ∧
      (after (exec .encode (args 1920 1080 60))).bind (fun t => t.out.map fun b => ((b.toList.drop 54).take 12, b[127])) =
        some ([0xD8, 0x36, 0x80, 0xA0, 0x07, 0x38, 0x2D, 0x04, 0x30, 0x20, 0x3A, 0x00], 0xDE) := by decide +kernel

/-- V-E7 and V-E11: an exact tie goes to the even clock 70; a body sum of 2048 gives the checksum 00. -/
theorem test_encode_tie_and_zero_checksum :
    (after (exec .encode (args 90 2 60))).bind (fun t => t.out.map fun b => (b[54], b[127])) = some (0x46, 0x0D) ∧
      (after (exec .encode (args 40 1080 60))).bind (fun t => t.out.map fun b => b[127]) = some 0x00 := by decide +kernel

/-- V-E15, V-E17, V-E23, V-E24: each error, with its status word and `INFO`. -/
theorem wit_EncodeOutcome_errors :
    result (exec .encode (args 4096 100 60)) = some (0x00001012, 4096) ∧
      result (exec .encode (args 100 4096 60)) = some (0x00001022, 4096) ∧
      result (exec .encode (args 1920 1080 0x1003C)) = some (0x00001001, 0x1003C) ∧
      result (exec .encode (args 3840 2160 120)) = some (0x00001032, 105840) := by decide +kernel

/-- V-D9: the clock needs more than 32 bits. -/
theorem test_derive_wide :
    (after (exec .derive (args 65535 65535 240))).bind (fun t => t.dGroup) =
      some { hTotal := 65695, vTotal := 65580, pclk := 0xF0BE699EC0, clk10k := 0x0629BD12, clkFits := false } := by
  decide +kernel

/-- V-D5, V-D10 and V-D13: the tie, the 16-bit limit and the first value above it. -/
theorem test_derive_tie_and_limit :
    (after (exec .derive (args 90 2 60))).bind (fun t => t.dGroup.map (·.clk10k)) = some 70 ∧
      result (exec .derive (args 65535 0 60)) = some (0x00003A00, 0) ∧
      result (exec .derive (args 65536 1080 60)) = some (0x00003012, 65536) := by decide +kernel

/-- V-V6 and V-V3 on a block like the vectors': a wrong sum reports the sum, a wrong length the length. -/
theorem test_validate_sum_and_length :
    result (exec .validate (presented (small.set 127 0x28) 128)) = some (0x00002005, 34) ∧
      result (exec .validate (presented small 129)) = some (0x00002003, 129) := by decide +kernel

/-- V-V10, V-V4a and V-V9: the smallest valid block, the reset buffer, and the length before the header. -/
theorem test_validate_order :
    result (exec .validate (presented small 128)) = some (0x00002000, 0) ∧
      result (exec .validate (presented (Vector.replicate 128 0) 128)) = some (0x00002004, 0) ∧
      result (exec .validate (presented (small.set 0 0x01) 127)) = some (0x00002003, 127) := by decide +kernel

/-- V-U3: every nibble and every bit pair. -/
theorem test_unpack_mixed :
    (after (exec .unpack (presented mixed 128))).bind (fun t => t.uGroup) =
      some { clock10k := 13330, hact := 2646, hblank := 2424, vact := 188, vblank := 4062, hso := 1023, hsp := 238,
             vso := 61, vsp := 13 } := by decide +kernel

/-- V-U6: a wrong length leaves the U group invalid. -/
theorem test_unpack_length :
    result (exec .unpack (presented mixed 127)) = some (0x00004003, 127) := by decide +kernel

/-- V-I5 on a fresh block: a legal opcode under nonzero reserved bits runs no command. -/
theorem test_illegal_word :
    result (step (sends [.write 0x000 4 0x00000011])) = some (0x00001006, 0x00000011) := by decide +kernel

/-- V-B18: the window is little-endian. -/
theorem test_window_write :
    (after (step (sends [.write 0x20C 4 0x12345678]))).map (fun t => (t.inBuf.toList.drop 12).take 4) =
      some [0x78, 0x56, 0x34, 0x12] := by decide +kernel

/-- V-B6, V-B7, V-B9, V-B11, V-B14 and V-B20: bus errors of each step of R56, recorded at `BASE + off`. -/
theorem test_bus_errors :
    [HostInput.write 0x006 4 5, .write 0x00C 2 5, .read 0x038 4, .write 0x004 4 1, .read 0x020 4, .write 0x001 4 1].map
        (fun x => (after (step (sends [x]))).map (·.faultLog)) =
      [some [.busError 0x4006], some [.busError 0x400C], some [.busError 0x4038], some [.busError 0x4004],
        some [.busError 0x4020], some [.busError 0x4001]] := by decide +kernel

/-- V-B1 to V-B4: reads after reset. -/
theorem test_reset_reads :
    [HostInput.read 0x004 4, .read 0x000 4, .read 0x01C 4, .read 0x08C 4, .read 0x090 4].map
        (fun x => (after (step (sends [x]))).map (·.responses)) =
      [some [.data 0x0000000F], some [.data 0], some [.data 4], some [.data 240], some [.data 0]] := by decide +kernel

/-- R120, R121, R122: the spec's own examples of the packing functions. -/
theorem test_packing_examples :
  packClock 14040 = [0xD8, 0x36] ∧ packClock 47045 = [0xC5, 0xB7] ∧
    packPair 1920 160 = [0x80, 0xA0, 0x07] ∧ packPair 1080 45 = [0x38, 0x2D, 0x04] ∧
    packSync 48 32 3 10 = [0x30, 0x20, 0x3A, 0x00] ∧ packSync 1023 63 15 15 = [0xFF, 0x3F, 0xFF, 0xC0] := by decide

/-- R89: the spec's example of a program's encoding. -/
theorem test_host_program_encoding :
  programTriples (expand (.encode 1920 1080 60)) =
    [⟨.w, 0x00C, some 0x00000780⟩, ⟨.w, 0x010, some 0x00000438⟩, ⟨.w, 0x014, some 0x0000003C⟩,
      ⟨.w, 0x000, some 0x00000001⟩] := by decide

/-- Program P7's encoding; its second transaction has the size 2. Its seventh line names `U_HACT`, its encoding the offset
0x040 (notes/assumptions/21.md): the offset is taken here. -/
theorem test_host_program_encoding_P7 :
    programTriples [wrAt 0x006 5, .write 0x00C 2 5, rdAt 0x038, wr .status 1, wr .rateCount 1, rd .dHtotal,
        rdAt 0x040, rd .cmd, rdAt 0x300, wr (.rateTable 0) 1] =
      [⟨.w, 0x006, some 5⟩, ⟨.w, 0x00C, some 5⟩, ⟨.r, 0x038, none⟩, ⟨.w, 0x004, some 1⟩, ⟨.w, 0x01C, some 1⟩,
        ⟨.r, 0x020, none⟩, ⟨.r, 0x040, none⟩, ⟨.r, 0x000, none⟩, ⟨.r, 0x300, none⟩, ⟨.w, 0x080, some 1⟩] := by decide

/-- The placed word is what the next step runs, from `State.reset` itself. -/
theorem test_fetch_word :
    result (step (State.reset.withFetchWord 32 1)) = some (0x00001001, 0) ∧
      result (step (State.reset.withFetchWord 32 2)) = some (0x00002003, 0) ∧
      result (step (State.reset.withFetchWord 32 3)) = some (0x00003001, 0) ∧
      result (step (State.reset.withFetchWord 32 4)) = some (0x00004003, 0) := by decide +kernel

/-! ### Witnesses: the hypotheses of each statement can be met -/

theorem wit_wellFormed : fresh.cfg.wellFormed = true ∧ (State.resetWith (cfgRates [])).cfg.wellFormed = false := by decide

theorem wit_StepRunsTheDecodedCommand :
    (sends [.write 0x000 4 3]).cfg.wellFormed = true ∧ (sends [.write 0x000 4 3]).pending = [.write 0x000 4 3] ∧
      decode 3 = .command .derive := by decide

theorem wit_IllegalWordsChangeOnlyTheResult :
    (sends [.write 0x000 4 0x10]).cfg.wellFormed = true ∧ (0x10#32).extractLsb' 4 28 ≠ 0 ∧
      (0x0#32).extractLsb' 0 4 ∉ [1#4, 2#4, 3#4, 4#4] ∧ (0x5#32).extractLsb' 0 4 ∉ [1#4, 2#4, 3#4, 4#4] := by decide

/-- A step that answers a next state, here with a command that completes (for the statements about every step). -/
theorem wit_step : (after (step ((args 4095 0 60).setPending [.write 0x000 4 1]))).isSome = true := by decide +kernel

/-- The success clause of ENCODE at the ends of its range, 4095 and 0. -/
theorem wit_EncodeOutcome_success :
    (60 ∈ cfgZS.rateSet ∧ (args 4095 0 60).argHact.toNat = 4095 ∧
      roundq ((4095 + 160) * (0 + 45) * 60) 10000 cfgZS.clockRounding = 1149) ∧
    result (exec .encode (args 4095 0 60)) = some (0x00001100, 0) := by decide +kernel

/-- Every clause of DERIVE: the rate, 65536 in each count, and 65535 in both. -/
theorem wit_DeriveOutcome :
    result (exec .derive (args 70000 70000 90)) = some (0x00003001, 90) ∧
      result (exec .derive (args 65536 0 60)) = some (0x00003012, 65536) ∧
      result (exec .derive (args 65535 65536 60)) = some (0x00003022, 65536) ∧
      result (exec .derive (args 65535 65535 60)) = some (0x00003200, 0) := by decide +kernel

/-- A valid presented block, for the success clauses of VALIDATE and UNPACK, R144, R145 and R153. -/
theorem wit_inputValid : (presented mixed 128).inputValid := by
  rw [← State.inputCheck_none_iff_valid]; decide +kernel

/-- Every failing clause of VALIDATE and UNPACK. -/
theorem wit_ValidateOutcome :
    (presented small 127).inLen ≠ 128 ∧ ¬ hasHeader (small.set 7 0x80) ∧
      (hasHeader (small.set 127 0x07) ∧ blockSum (small.set 127 0x07) % 256 ≠ 0) := by
  refine ⟨by decide, ?_, ?_, ?_⟩
  · rw [← take_eq_header_iff]; decide +kernel
  · rw [← take_eq_header_iff]; decide +kernel
  · rw [← byteSum_toList]; decide +kernel

theorem wit_CommandsKeepTheWriteMatrix :
    (after (runCommand 2 (presented mixed 128))).isSome = true ∧ (2 : Word) ≠ 1 ∧ (2 : Word) ≠ 3 ∧ (2 : Word) ≠ 4 := by
  decide +kernel

/-- Two states with the same operands and different buffers, for R36 and R128; both encode. -/
theorem wit_EncodeIsDeterministic :
    ((args 1920 1080 60).setInBuf mixed).cfg = (args 1920 1080 60).cfg ∧
      result (exec .encode (args 1920 1080 60)) = some (0x00001100, 0) ∧
      result (exec .encode ((args 1920 1080 60).setInBuf mixed)) = some (0x00001100, 0) := by decide +kernel

/-- Two successful ENCODEs with different operands, for R129, and at the boundary positions 53, 66 and 126. -/
theorem wit_ProfileBytesDoNotDependOnArguments :
    (after (exec .encode (args 0 0 60))).bind (fun t => t.out.map fun b => [b[53], b[66], b[126]]) = some [0, 0, 0] ∧
      (after (exec .encode (args 0 4095 60))).bind (fun t => t.out.map fun b => [b[53], b[66], b[126]]) =
        some [0, 0, 0] := by decide +kernel

/-- A successful ENCODE with its block, for R106, R127 and R152. -/
theorem wit_EncodedBlock :
    (after (exec .encode (args 1920 1080 60))).map (fun t => (t.code, t.out)) =
      some (.ok, some (outBlock cfgZS 1920 1080 14040)) := by decide +kernel

/-- A successful UNPACK, for R153. -/
theorem wit_PackInvertsUnpack :
    (after (exec .unpack (presented mixed 128))).bind (fun t => t.uGroup.map (·.hact)) = some 2646 := by decide +kernel

/-- Flips of a bit in byte 7, of a 0 bit in byte 8 and of a 1 bit in byte 127 of a valid block, for R145. -/
theorem wit_SingleBitFlipsAreDetected :
    mixed[8].getLsbD 0 = false ∧ mixed[127].getLsbD 3 = true ∧
      result (exec .validate (presented (mixed.set 7 (mixed[7] ^^^ BitVec.twoPow 8 7)) 128)) = some (0x00002004, 0) ∧
      result (exec .validate (presented (mixed.set 8 (mixed[8] ^^^ BitVec.twoPow 8 0)) 128)) = some (0x00002005, 1) ∧
      result (exec .validate (presented (mixed.set 127 (mixed[127] ^^^ BitVec.twoPow 8 3)) 128)) =
        some (0x00002005, 248) := by decide +kernel

/-- Below, above and on a tie, for R11. -/
theorem wit_NearestModesDifferOnlyOnTies :
    0 < 10 ∧ 2 * (4 % 10) < 10 ∧ 10 < 2 * (6 % 10) ∧ 2 * (5 % 10) = 10 ∧ 2 * (15 % 10) = 10 ∧
      roundq 5 10 .nearestTiesEven = 0 ∧ roundq 15 10 .nearestTiesEven = 2 := by decide

/-- A body of 127 bytes whose sum is already zero modulo 256, for R125. -/
theorem wit_ChecksumMakesTheSumZero :
    (List.replicate 127 (0 : Byte)).length = 127 ∧ byteSum (List.replicate 127 0) % 256 = 0 := by decide +kernel

theorem wit_SourceScenario :
    (args 5120 1440 60).argHact = 5120 ∧ (args 5120 1440 60).argVact = 1440 ∧ (args 5120 1440 60).argRate = 60 ∧
      60 ∈ (args 5120 1440 60).cfg.rateSet ∧ (args 5120 1440 60).cfg.clockRounding ≠ .floor := by decide

/-- A read that is a bus error by each condition, at the edges of the map, and one that none of them holds of. -/
theorem wit_readFaults :
    fresh.readFaults 0x004 1 ∧ fresh.readFaults 0x006 4 ∧ fresh.readFaults 0x038 4 ∧ fresh.readFaults 0x280 4 ∧
      fresh.readFaults 0x034 4 ∧ fresh.readFaults 0x060 4 ∧ fresh.readFaults 0x17C 4 ∧ ¬ accessRejected 0x27C 4 ∧
      fresh.readReg (.inW 31) = some 0 ∧ regOffset (.inW 31) = 0x27C := by
  refine ⟨.inl (.inl (by decide)), .inl (.inr (.inl (by decide))), .inl (.inr (.inr ?_)), .inl (.inr (.inr ?_)),
    .inr ⟨.dClk10kHi, .d, rfl, rfl, rfl⟩, .inr ⟨.uVsp, .u, rfl, rfl, rfl⟩, .inr ⟨.outW 31, .out, rfl, rfl, rfl⟩, ?_,
    by decide +kernel, rfl⟩ <;> simp only [accessRejected, offsetMapped] <;> decide

/-- A write that is a bus error by its target, and the write to `CMD`, which is none. -/
theorem wit_writeFaults : writeFaults 0x004 4 ∧ writeFaults 0x100 4 ∧ ¬ accessRejected 0x000 4 := by
  refine ⟨.inr ⟨.status, rfl, .inl rfl⟩, .inr ⟨.outW 0, rfl, .inr ⟨.out, rfl⟩⟩, ?_⟩
  unfold accessRejected offsetMapped; decide

theorem wit_BusErrorsAndIllegalWordsComeFirst :
    (sends [.write 0x001 4 1]).pending = [.write 0x001 4 1] ∧ (0x001#12).toNat % 4 ≠ 0 ∧
      (sends [.write 0x000 4 0x00000011]).pending = [.write 0x000 4 0x00000011] ∧
      (0x00000011#32).extractLsb' 4 28 ≠ 0 ∧ (0x00000005#32).extractLsb' 0 4 ∉ [1#4, 2#4, 3#4, 4#4] := by decide

/-- A read that is no bus error, sent twice: its register answers. -/
theorem wit_ReadsAreIdempotent :
    (sends [.read 0x004 4, .read 0x004 4]).pending = [.read 0x004 4, .read 0x004 4] ∧
      (busTarget 0x004 4).bind (sends [.read 0x004 4, .read 0x004 4]).readReg = some 0x0000000F := by decide

/-- One write per clause of R58, the last word of `IN`, and offsets that no write may use, misaligned ones
inside the two writable ranges among them. -/
theorem wit_WritesActAsTheirRegister :
    [0x00C, 0x010, 0x014, 0x018, 0x27C, 0x000, 0x004, 0x280, 0x00D, 0x017, 0x201, 0x27B, 0x01C].map
        (fun off => (after (step (sends [.write (BitVec.ofNat 12 off) 4 1]))).map (·.faultLog.length)) =
      [some 0, some 0, some 0, some 0, some 0, some 0, some 1, some 1, some 1, some 1, some 1, some 1, some 1] := by
  decide +kernel

/-- One state for each code (R160) and for each field (R29), with the numbers the tables give. -/
theorem wit_StatusWordLayout :
    [Code.ok, .unsupportedRefreshRate, .fieldOverflow, .lengthMismatch, .headerMismatch, .checksumMismatch,
        .illegalCommand, .noCommand].map (fun c => (fresh.setResult c .noField 0).statusWord) =
      [0, 1, 2, 3, 4, 5, 6, 15] ∧
    [OverflowField.noField, .hActive, .vActive, .pixelClock].map
        (fun f => (fresh.setResult .fieldOverflow f 0).statusWord) =
      [0x02, 0x12, 0x22, 0x32] ∧
    (fresh.setD (some ⟨160, 45, 0, 0, true⟩)).statusWord = 0x00000A0F := by decide

/-- Three inputs, two of them delivered by two steps: the third stays pending, and the reset is not answered. -/
theorem wit_EveryInputIsDelivered :
    (sends [.write 0x00C 4 7, .reset, .read 0x00C 4]).pending = [.write 0x00C 4 7, .reset] ++ [.read 0x00C 4] ∧
      (after (Host.Core.run Sys2Proof.core 2 (sends [.write 0x00C 4 7, .reset, .read 0x00C 4]))).map
        (fun t => (t.pending, t.responses)) = some ([.read 0x00C 4], [.written]) := by decide +kernel

/-- States whose groups are valid, for the reads of R27, R33, R34 and R52. -/
theorem wit_groups_valid :
    (fresh.setOut (some small)).out = some small ∧
      (after (exec .derive (args 5120 1440 60))).map (·.dGroup.isSome) = some true ∧
      (after (exec .unpack (presented small 128))).map (·.uGroup.isSome) = some true ∧
      fresh.dGroup = none ∧ fresh.uGroup = none := by decide +kernel

/-- A state about to copy: OUT is valid, its words are what the reads answer, and one write of such a word, or the
whole of `copy_out_in`, is pending. -/
def copying (l : List HostInput) : State := (fresh.setOut (some small)).setPending l

theorem copying_reads (l : List HostInput) (k : Fin 32) :
    (copying l).reads (0x100 + 4 * k.val) (Vector.ofFn (bufWord small))[k] :=
  State.reads_of_readReg _ (show cfgZS.wellFormed = true by decide) (.outW k) _ (by simp [State.readReg, copying])

theorem wit_CopyOutInCopiesTheBytes :
    (copying [wr (.inW 31) (bufWord small 31)]).cfg.wellFormed = true ∧
      (copying [wr (.inW 31) (bufWord small 31)]).out = some small ∧
      (copying [wr (.inW 31) (bufWord small 31)]).reads (0x100 + 4 * (31 : Fin 32).val) (bufWord small 31) ∧
      (copying [wr (.inW 31) (bufWord small 31)]).pending =
        [.write (BitVec.ofNat 12 (0x200 + 4 * (31 : Fin 32).val)) 4 (bufWord small 31)] :=
  ⟨show cfgZS.wellFormed = true by decide, rfl, by simpa using copying_reads [wr (.inW 31) (bufWord small 31)] 31, rfl⟩

theorem wit_CopyOutInCopiesTheBlock :
    (copying (expand (.copyOutIn (Vector.ofFn (bufWord small))))).cfg.wellFormed = true ∧
      (copying (expand (.copyOutIn (Vector.ofFn (bufWord small))))).out = some small ∧
      (∀ k : Fin 32, (copying (expand (.copyOutIn (Vector.ofFn (bufWord small))))).reads (0x100 + 4 * k.val)
        (Vector.ofFn (bufWord small))[k]) ∧
      (copying (expand (.copyOutIn (Vector.ofFn (bufWord small))))).pending =
        expand (.copyOutIn (Vector.ofFn (bufWord small))) ++ [] :=
  ⟨show cfgZS.wellFormed = true by decide, rfl, copying_reads _, by simp [copying]⟩

/-- Entries inside the rate set and past its end, for R32. -/
theorem wit_RateTableReads :
    cfgZS.rateSet[3]? = some 240 ∧ cfgZS.rateSet.length ≤ 4 := by decide

theorem wit_ResultsAreSnapshots :
    (sends [.write 0x00C 4 1]).pending = [.write 0x00C 4 1] ∧ (0x00C#12) ≠ 0x000 ∧
      (after (step (sends [.write 0x00C 4 1]))).isSome = true := by decide +kernel

theorem wit_IdleBlockChangesNothing : fresh.cfg.wellFormed = true ∧ fresh.pending = [] := by decide

theorem wit_ResetInput :
    (sends [.reset]).cfg.wellFormed = true ∧ (sends [.reset]).pending = [.reset] := by decide

/-- Steps that are no resets, for each clause of R182: a read leaves `NONE`, and a failing command takes its own valid
group. -/
theorem wit_OnlyResetForgets :
    (after (step (sends [.read 0x004 4]))).map (·.code) = some .noCommand ∧
      (after (step (((args 1920 1080 90).setOut (some small)).setPending [.write 0x000 4 1]))).map (·.out) = some none ∧
      (after (step (((args 0 0 90).setD (some ⟨160, 45, 432000, 43, true⟩)).setPending [.write 0x000 4 3]))).map
        (·.dGroup) = some none ∧
      (after (step ((fresh.setU (some (unpackDtd (dtdByte small)))).setPending [.write 0x000 4 4]))).map (·.uGroup) =
        some none := by decide +kernel

/-- The four invariants hold in a state with valid groups too: OUT by ENCODE's own block, D and U by vectors V-D1 and
V-U3. -/
theorem wit_invariants :
    (fresh.setOut (some (outBlock cfgZS 1920 1080 14040))).outInv ∧
      (fresh.setD (some ⟨5280, 1485, 470448000, 47045, true⟩)).dInv ∧
      (fresh.setU (some ⟨13330, 2646, 2424, 188, 4062, 1023, 238, 61, 13⟩)).uInv ∧
      ((fresh.setLastOp 2).setResult .checksumMismatch .noField 34).resultInv := by
  refine ⟨?_, ?_, ?_, ?_⟩
  · intro b hb
    obtain rfl : outBlock cfgZS 1920 1080 14040 = b := by simpa using hb
    refine ⟨?_, ?_, ?_⟩
    · rw [← take_eq_header_iff]; decide +kernel
    · rw [← byteSum_toList]; decide +kernel
    · unfold profileBytes; decide +kernel
  · intro d hd
    obtain rfl : _ = d := by simpa using hd
    exact ⟨5120, 1440, 60, by decide, by decide, by decide, by decide, by decide, by decide, by decide, by decide⟩
  · intro u hu
    obtain rfl : _ = u := by simpa using hu
    decide
  · exact ⟨rfl, by decide, by decide, .inl rfl⟩

/-- A state that meets the four invariants and from which a step runs a command that succeeds. -/
theorem wit_invariant_steps :
    ((args 4095 0 60).setPending [.write 0x000 4 1]).resultInv ∧ ((args 4095 0 60).setPending [.write 0x000 4 1]).outInv ∧
      ((args 4095 0 60).setPending [.write 0x000 4 1]).dInv ∧ ((args 4095 0 60).setPending [.write 0x000 4 1]).uInv ∧
      result (step ((args 4095 0 60).setPending [.write 0x000 4 1])) = some (0x00001100, 0) :=
  ⟨⟨rfl, rfl, rfl, rfl, rfl, rfl⟩, fun _ h => by simp [args, fresh, State.resetWith] at h,
    fun _ h => by simp [args, fresh, State.resetWith] at h, fun _ h => by simp [args, fresh, State.resetWith] at h,
    by decide +kernel⟩

/-- The inputs of the pseudo-instructions, for R88. -/
theorem wit_host_programs :
    ((sends (expand (.encode 1920 1080 60))).pending = expand (.encode 1920 1080 60) ++ []) ∧
      ((sends (expand (.derive 5120 1440 60))).pending = expand (.derive 5120 1440 60) ++ []) ∧
      ((sends (expand (.loadIn small 128))).pending = expand (.loadIn small 128) ++ []) ∧
      (expand (.copyOutIn (Vector.replicate 32 0))).length = 65 := by
  refine ⟨by simp [sends], by simp [sends], by simp [sends], by decide +kernel⟩

end Sys2Proof.Tests
end

/-! ### Scope (spec/00_scope.md): the configuration, the step's outcome and rounding -/

namespace Sys2Proof

/-! The four checks of R7 item 1, each as the proposition it decides. -/

theorem Cfg.rateCountOk_iff (c : Cfg) :
    c.rateCountOk = true ↔ 4 ≤ c.rateSet.length ∧ c.rateSet.length ≤ 32 :=
  decide_eq_true_iff

/-- "Distinct and stored in ascending order" is strict order of the stored entries (R7 item 1). -/
theorem Cfg.rateOrderOk_iff (c : Cfg) :
    c.rateOrderOk = true ↔ c.rateSet.Nodup ∧ c.rateSet.Pairwise (· ≤ ·) := by
  rw [Cfg.rateOrderOk, decide_eq_true_iff, ← List.sortedLT_iff_pairwise, ← List.sortedLE_iff_pairwise]
  exact List.sortedLT_iff_nodup_and_sortedLE

theorem Cfg.rateRangeOk_iff (c : Cfg) :
    c.rateRangeOk = true ↔ ∀ r ∈ c.rateSet, 1 ≤ r ∧ r ≤ 65535 := by
  simp [Cfg.rateRangeOk]

theorem Cfg.rateBaseOk_iff (c : Cfg) :
    c.rateBaseOk = true ↔ 60 ∈ c.rateSet ∧ 120 ∈ c.rateSet ∧ 144 ∈ c.rateSet ∧ 240 ∈ c.rateSet := by
  simp [Cfg.rateBaseOk, defaultRates]

theorem Cfg.wellFormed_iff (c : Cfg) :
    c.wellFormed = true ↔
      4 ≤ c.rateSet.length ∧ c.rateSet.length ≤ 32 ∧ c.rateSet.Nodup ∧ c.rateSet.Pairwise (· ≤ ·) ∧
        (∀ r ∈ c.rateSet, 1 ≤ r ∧ r ≤ 65535) ∧
        60 ∈ c.rateSet ∧ 120 ∈ c.rateSet ∧ 144 ∈ c.rateSet ∧ 240 ∈ c.rateSet := by
  simp only [Cfg.wellFormed, Bool.and_eq_true, Cfg.rateCountOk_iff, Cfg.rateOrderOk_iff, Cfg.rateRangeOk_iff,
    Cfg.rateBaseOk_iff, and_assoc]

/-- R7 item 2: the bounds are the largest values of the parameters' widths. -/
theorem Cfg.syncParameters_le (c : Cfg) :
    c.hSyncOffset.toNat ≤ 1023 ∧ c.hSyncPulse.toNat ≤ 63 ∧ c.vSyncOffset.toNat ≤ 15 ∧ c.vSyncPulse.toNat ≤ 15 :=
  ⟨Nat.le_of_lt_succ c.hSyncOffset.isLt, Nat.le_of_lt_succ c.hSyncPulse.isLt,
    Nat.le_of_lt_succ c.vSyncOffset.isLt, Nat.le_of_lt_succ c.vSyncPulse.isLt⟩

/-- R7 item 3, R31: each profile constant has its length by type. -/
theorem Profile.field_lengths (p : Profile) :
    [p.mfr.toList, p.product.toList, p.serial.toList, p.date.toList, p.version.toList, p.display.toList,
      p.color.toList, p.established.toList, p.standard.toList, p.dtdTail.toList, p.nameDesc.toList,
      p.rangeDesc.toList, p.fillerDesc.toList, [p.extCount]].map List.length =
      [2, 2, 4, 2, 2, 5, 10, 3, 16, 6, 18, 18, 18, 1] := by
  simp only [List.map_cons, List.map_nil, Vector.length_toList, List.length_singleton]

/-- R7 item 4. -/
theorem Rounding.mem_values (m : Rounding) : m ∈ [.nearestTiesEven, .nearestTiesAway, .floor] := by
  cases m <;> decide

end Sys2Proof

namespace Sys2Proof.Machine

/-! Every command, write and input answers a next state: the block has no fault that stops it (R165, R191). -/

theorem exec_next (i : Instr) (s : State) : ∃ t, exec i s = .next t := by
  cases i with
  | encode => obtain ⟨_, _, h⟩ | ⟨_, h⟩ := execEncode_cases s <;> exact ⟨_, h⟩
  | validate => obtain ⟨_, _, h⟩ | ⟨_, h⟩ := execValidate_cases s <;> exact ⟨_, h⟩
  | derive => obtain ⟨_, _, h⟩ | ⟨_, h⟩ := execDerive_cases s <;> exact ⟨_, h⟩
  | unpack => obtain ⟨_, _, h⟩ | ⟨_, h⟩ := execUnpack_cases s <;> exact ⟨_, h⟩

theorem runCommand_next (w : Word) (s : State) : ∃ t, runCommand w s = .next t := by
  obtain ⟨i, _, h⟩ | ⟨_, h⟩ := runCommand_cases w s
  · rw [h]
    exact exec_next i s
  · exact ⟨_, h⟩

theorem writeReg_next {r : Reg} {v : Word} {s : State} {o : Host.Outcome State Fault Refusal}
    (h : writeReg r v s = some o) : ∃ t, o = .next t := by
  obtain ⟨_, ho⟩ | ⟨_, ho⟩ | ⟨_, ho⟩ | ⟨_, ho⟩ | ⟨_, ho⟩ | ⟨_, _, ho⟩ := writeReg_cases h
  · rw [ho]
    exact runCommand_next v s
  all_goals exact ⟨_, ho⟩

theorem deliverRead_next (off : BitVec 12) (n : Nat) (s : State) : ∃ t, deliverRead off n s = .next t := by
  obtain ⟨_, _, _, _, h⟩ | ⟨_, h⟩ := deliverRead_cases off n s <;> exact ⟨_, h⟩

theorem deliverWrite_next (off : BitVec 12) (n : Nat) (v : Word) (s : State) :
    ∃ t, deliverWrite off n v s = .next t := by
  obtain ⟨_, _, _, hw, h⟩ | ⟨_, h⟩ := deliverWrite_cases off n v s
  · obtain ⟨t, rfl⟩ := writeReg_next hw
    exact ⟨_, h⟩
  · exact ⟨_, h⟩

theorem deliver_next (x : HostInput) (s : State) : ∃ t, deliver x s = .next t := by
  cases x with
  | read off n => exact deliverRead_next off n s
  | write off n v => exact deliverWrite_next off n v s
  | reset => exact ⟨_, rfl⟩

/-- The block acts only on an input of the host (R13). -/
theorem step_idle {s : State} (hw : s.cfg.wellFormed = true) (hp : s.pending = []) : step s = .next s := by
  simp [step, deliverNext, hw, hp]

/-- No run has a meaning under an ill-formed configuration (R7). -/
theorem step_illFormed {s : State} (hw : s.cfg.wellFormed = false) :
    step s = .refused .illFormedConfiguration := by
  simp [step, deliverNext, hw]

theorem step_next {s : State} (hw : s.cfg.wellFormed = true) : ∃ t, step s = .next t := by
  cases hp : s.pending with
  | nil => exact ⟨s, step_idle hw hp⟩
  | cons x rest =>
    rw [step_deliver hw hp]
    exact deliver_next x _

/-! `roundq` on either side of the tie and on it (R11). -/

theorem roundq_nearest_of_lt {n d : Nat} (h : 2 * (n % d) < d) :
    roundq n d .nearestTiesEven = n / d ∧ roundq n d .nearestTiesAway = n / d :=
  ⟨if_neg (by omega), if_neg (by omega)⟩

theorem roundq_nearest_of_gt {n d : Nat} (h : d < 2 * (n % d)) :
    roundq n d .nearestTiesEven = n / d + 1 ∧ roundq n d .nearestTiesAway = n / d + 1 :=
  ⟨if_pos (.inl h), if_pos h.le⟩

theorem roundq_tiesAway_of_tie {n d : Nat} (h : 2 * (n % d) = d) : roundq n d .nearestTiesAway = n / d + 1 :=
  if_pos h.ge

/-- On a tie the quotient is rounded up exactly if it is odd. -/
theorem roundq_tiesEven_of_tie {n d : Nat} (h : 2 * (n % d) = d) :
    roundq n d .nearestTiesEven = n / d + n / d % 2 := by
  obtain heven | hodd := Nat.mod_two_eq_zero_or_one (n / d)
  · rw [heven]
    exact if_neg (by omega)
  · rw [hodd]
    exact if_pos (.inr ⟨h, hodd⟩)

end Sys2Proof.Machine

section

open Sys2Proof Sys2Proof.Machine

/-- Settles O6: R7 item 1 check by check, items 2 to 4 by the types, and every arm of the step answers. -/
theorem onlyWellFormedConfigurationsRun : Obligations.OnlyWellFormedConfigurationsRun := by
  intro s
  exact ⟨s.cfg.wellFormed_iff, s.cfg.syncParameters_le, fun p _ => p.field_lengths, s.cfg.clockRounding.mem_values,
    step_next, step_illFormed⟩

/-- Settles O24, by the position of twice the remainder against the divisor. -/
theorem nearestModesDifferOnlyOnTies : Obligations.NearestModesDifferOnlyOnTies := by
  intro n d _
  refine ⟨roundq_nearest_of_lt, roundq_nearest_of_gt, fun htie => ⟨roundq_tiesAway_of_tie htie, ?_⟩, rfl⟩
  rw [roundq_tiesEven_of_tie htie]
  omega

/-- Settles O40: with no input, the step's empty case returns the state. -/
theorem idleBlockChangesNothing : Obligations.IdleBlockChangesNothing :=
  fun _ hw hp => step_idle hw hp

end

/-! ### State (spec/10_state.md): what a step writes, the result groups and the register reads -/

namespace Sys2Proof

/-- A word that selects a command is that command's full word (R71). -/
theorem eq_encode_of_decode {w : Word} {i : Instr} (h : decode w = .command i) : w = encode i := by
  have hw : w = rsvdField w ++ opField w :=
    (BitVec.extractLsb'_append_extractLsb'_eq_extractLsb' rfl).symm ▸ BitVec.extractLsb'_eq_self.symm
  unfold decode at h
  split_ifs at h with hr h1 h2 h3 h4 <;> cases h
  · rw [hw, not_not.mp hr, h1]; rfl
  · rw [hw, not_not.mp hr, h2]; rfl
  · rw [hw, not_not.mp hr, h3]; rfl
  · rw [hw, not_not.mp hr, h4]; rfl

end Sys2Proof

namespace Sys2Proof.Machine

/-! What a command, a word at `CMD` and a step may write, as one record update each: what does not stand in the
update is unchanged (R37). -/

/-- A command writes the result fields and, of the three groups, at most its own (R28, R37). -/
theorem exec_writes {i : Instr} {s t : State} (h : exec i s = .next t) :
    ∃ c f v o d u,
      t = { s with lastOp := opcode i, code := c, field := f, info := v, out := o, dGroup := d, uGroup := u } ∧
        (i ≠ .encode → o = s.out) ∧ (i ≠ .derive → d = s.dGroup) ∧ (i ≠ .unpack → u = s.uGroup) := by
  cases i with
  | encode =>
    obtain ⟨e, _, ht⟩ | ⟨_, ht⟩ := execEncode_cases s <;> cases ht.symm.trans h <;>
      exact ⟨_, _, _, _, _, _, rfl, absurd rfl, fun _ => rfl, fun _ => rfl⟩
  | validate =>
    obtain ⟨e, _, ht⟩ | ⟨_, ht⟩ := execValidate_cases s <;> cases ht.symm.trans h <;>
      exact ⟨_, _, _, _, _, _, rfl, fun _ => rfl, fun _ => rfl, fun _ => rfl⟩
  | derive =>
    obtain ⟨e, _, ht⟩ | ⟨_, ht⟩ := execDerive_cases s <;> cases ht.symm.trans h <;>
      exact ⟨_, _, _, _, _, _, rfl, fun _ => rfl, absurd rfl, fun _ => rfl⟩
  | unpack =>
    obtain ⟨e, _, ht⟩ | ⟨_, ht⟩ := execUnpack_cases s <;> cases ht.symm.trans h <;>
      exact ⟨_, _, _, _, _, _, rfl, fun _ => rfl, fun _ => rfl, absurd rfl⟩

/-- A word at `CMD` writes the result fields and, of the three groups, at most the one whose command it is
(R37, R72). -/
theorem runCommand_writes {w : Word} {s t : State} (h : runCommand w s = .next t) :
    ∃ c f v o d u,
      t = { s with lastOp := opField w, code := c, field := f, info := v, out := o, dGroup := d, uGroup := u } ∧
        (w ≠ 1 → o = s.out) ∧ (w ≠ 3 → d = s.dGroup) ∧ (w ≠ 4 → u = s.uGroup) := by
  obtain ⟨i, hi, hrun⟩ | ⟨_, hrun⟩ := runCommand_cases w s
  · obtain rfl := eq_encode_of_decode hi
    obtain ⟨c, f, v, o, d, u, rfl, ho, hd, hu⟩ := exec_writes (hrun.symm.trans h)
    have hop : opField (encode i) = opcode i := by cases i <;> rfl
    rw [hop]
    refine ⟨c, f, v, o, d, u, rfl, fun hw => ho ?_, fun hw => hd ?_, fun hw => hu ?_⟩ <;> rintro rfl <;>
      exact hw rfl
  · cases hrun.symm.trans h
    exact ⟨_, _, _, _, _, _, rfl, fun _ => rfl, fun _ => rfl, fun _ => rfl⟩

/-- What a step can do to the block: it leaves the configuration, the result and the groups alone, or a word
written to `CMD` runs and is answered, or the block is reset (R13, R61). -/
theorem step_effects {s t : State} (h : step s = .next t) :
    (∃ ah av ar n b p l f, t = { s with
      argHact := ah, argVact := av, argRate := ar, inLen := n, inBuf := b, pending := p, responses := l,
      faultLog := f }) ∨
    (∃ off n w rest t', s.pending = .write off n w :: rest ∧ busTarget off n = some .cmd ∧
      runCommand w (s.setPending rest) = .next t' ∧ t = t'.pushResponse .written) ∨
    (∃ rest, s.pending = .reset :: rest ∧ t = (s.setPending rest).resetBlock) := by
  obtain ⟨_, ⟨_, rfl⟩ | ⟨x, rest, hp, hx⟩⟩ := step_cases h
  · exact .inl ⟨_, _, _, _, _, _, _, _, rfl⟩
  cases x with
  | read off n =>
    obtain ⟨_, _, _, _, hd⟩ | ⟨_, hd⟩ := deliverRead_cases off n (s.setPending rest) <;> cases hd.symm.trans hx <;>
      exact .inl ⟨_, _, _, _, _, _, _, _, rfl⟩
  | write off n w =>
    obtain ⟨r, o, hb, hw, hd⟩ | ⟨_, hd⟩ := deliverWrite_cases off n w (s.setPending rest)
    · obtain ⟨t', rfl⟩ := writeReg_next hw
      cases hd.symm.trans hx
      obtain ⟨rfl, ho⟩ | ⟨_, ho⟩ | ⟨_, ho⟩ | ⟨_, ho⟩ | ⟨_, ho⟩ | ⟨_, _, ho⟩ := writeReg_cases hw
      · exact .inr (.inl ⟨off, n, w, rest, t', hp, hb, ho.symm, rfl⟩)
      all_goals
        cases ho
        exact .inl ⟨_, _, _, _, _, _, _, _, rfl⟩
    · cases hd.symm.trans hx
      exact .inl ⟨_, _, _, _, _, _, _, _, rfl⟩
  | reset =>
    cases hx
    exact .inr (.inr ⟨rest, hp, rfl⟩)

/-- The configuration is fixed when the block is built (R183). -/
theorem step_cfg {s t : State} (h : step s = .next t) : t.cfg = s.cfg := by
  obtain ⟨_, _, _, _, _, _, _, _, rfl⟩ | ⟨_, _, _, _, t', _, _, hrun, rfl⟩ | ⟨_, _, rfl⟩ := step_effects h
  · rfl
  · obtain ⟨_, _, _, _, _, _, rfl, _⟩ := runCommand_writes hrun
    rfl
  · rfl

/-! The D group: the derived parameters fit their registers (R33, R103, R105). -/

theorem roundq_le (n d : Nat) (m : Rounding) : roundq n d m ≤ n / d + 1 := by
  cases m with
  | floor => exact Nat.le_succ _
  | nearestTiesAway => simp only [roundq]; split_ifs <;> omega
  | nearestTiesEven => simp only [roundq]; split_ifs <;> omega

/-- The pixel clock of the largest accepted operands bounds every other (R103). -/
theorem pclkHz_le {h v r : Nat} (hh : h ≤ 65535) (hv : v ≤ 65535) (hr : r ≤ 65535) :
    pclkHz h v r ≤ 65695 * 65580 * 65535 :=
  Nat.mul_le_mul (Nat.mul_le_mul (Nat.add_le_add_right hh 160) (Nat.add_le_add_right hv 45)) hr

theorem pclkHz_lt {h v r : Nat} (hh : h ≤ 65535) (hv : v ≤ 65535) (hr : r ≤ 65535) : pclkHz h v r < 2 ^ 49 :=
  (pclkHz_le hh hv hr).trans_lt (by decide)

theorem clk10k_lt {h v r : Nat} (m : Rounding) (hh : h ≤ 65535) (hv : v ≤ 65535) (hr : r ≤ 65535) :
    clk10k m h v r < 2 ^ 35 := by
  have hp := pclkHz_le hh hv hr
  have hq : clk10k m h v r ≤ pclkHz h v r / 10000 + 1 := roundq_le _ _ m
  omega

/-- The entries of a well-formed rate set are 16-bit values (R7 item 1). -/
theorem rate_le_of_wellFormed {c : Cfg} (hw : c.wellFormed = true) {r : Nat} (hr : r ∈ c.rateSet) : r ≤ 65535 := by
  obtain ⟨_, _, _, _, hrange, _⟩ := c.wellFormed_iff.mp hw
  exact (hrange r hr).2

/-- The D group of accepted operands holds the exact parameters: none of them wraps (R105). -/
theorem derivedGroup_exact {h v r : Nat} (m : Rounding) (hh : h ≤ 65535) (hv : v ≤ 65535) (hr : r ≤ 65535) :
    (derivedGroup m h v r).hTotal.toNat = h + 160 ∧ (derivedGroup m h v r).vTotal.toNat = v + 45 ∧
      (derivedGroup m h v r).pclk.toNat = pclkHz h v r ∧ (derivedGroup m h v r).clk10k.toNat = clk10k m h v r ∧
      ((derivedGroup m h v r).clkFits = true ↔ clk10k m h v r ≤ 65535) := by
  have hp := pclkHz_lt hh hv hr
  have hc := clk10k_lt m hh hv hr
  refine ⟨?_, ?_, ?_, ?_, clkFits_iff _⟩
  · exact (BitVec.toNat_ofNat _ _).trans (Nat.mod_eq_of_lt (by unfold totalH hBlank; omega))
  · exact (BitVec.toNat_ofNat _ _).trans (Nat.mod_eq_of_lt (by unfold totalV vBlank; omega))
  · exact (BitVec.toNat_ofNat _ _).trans (Nat.mod_eq_of_lt (by omega))
  · exact (BitVec.toNat_ofNat _ _).trans (Nat.mod_eq_of_lt (by omega))

theorem execDerive_dInv {s t : State} (hw : s.cfg.wellFormed = true) (h : execDerive s = .next t) : t.dInv := by
  obtain ⟨_, _, ht⟩ | ⟨hc, ht⟩ := execDerive_cases s <;> cases ht.symm.trans h <;> rintro d ⟨⟩
  obtain ⟨hr, hh, hv⟩ := (deriveCheck_none_iff _ _ _ _).mp hc
  obtain ⟨hht, hvt, hpc, hck, hfit⟩ := derivedGroup_exact s.cfg.clockRounding hh hv (rate_le_of_wellFormed hw hr)
  exact ⟨_, _, _, hh, hv, hr, hht, hvt, hpc, hck, hck.symm ▸ hfit⟩

theorem runCommand_dInv {w : Word} {s t : State} (hw : s.cfg.wellFormed = true) (hs : s.dInv)
    (h : runCommand w s = .next t) : t.dInv := by
  by_cases h3 : w = 3
  · subst h3
    exact execDerive_dInv hw h
  · obtain ⟨_, _, _, _, _, _, rfl, _, hd, _⟩ := runCommand_writes h
    obtain rfl := hd h3
    exact hs

theorem step_dInv {s t : State} (hs : s.dInv) (h : step s = .next t) : t.dInv := by
  obtain ⟨_, _, _, _, _, _, _, _, rfl⟩ | ⟨_, _, _, rest, t', _, _, hrun, rfl⟩ | ⟨_, _, rfl⟩ := step_effects h
  · exact hs
  · have ht' : t'.dInv := runCommand_dInv (s := s.setPending rest) (step_cases h).1 hs hrun
    exact ht'
  · rintro d ⟨⟩

/-! The U group: each register is a zero-extended field (R34). -/

theorem toNat_setWidth_lt {n : Nat} (x : BitVec n) (hn : n ≤ 32) : (x.setWidth 32).toNat < 2 ^ n := by
  rw [BitVec.toNat_setWidth_of_le hn]
  exact x.isLt

theorem execUnpack_uInv {s t : State} (h : execUnpack s = .next t) : t.uInv := by
  obtain ⟨_, _, ht⟩ | ⟨_, ht⟩ := execUnpack_cases s <;> cases ht.symm.trans h <;> rintro u ⟨⟩
  refine ⟨?_, ?_, ?_, ?_, ?_, ?_, ?_, ?_, ?_⟩ <;> exact toNat_setWidth_lt _ (by decide)

theorem runCommand_uInv {w : Word} {s t : State} (hs : s.uInv) (h : runCommand w s = .next t) : t.uInv := by
  by_cases h4 : w = 4
  · subst h4
    exact execUnpack_uInv h
  · obtain ⟨_, _, _, _, _, _, rfl, _, _, hu⟩ := runCommand_writes h
    obtain rfl := hu h4
    exact hs

theorem step_uInv {s t : State} (hs : s.uInv) (h : step s = .next t) : t.uInv := by
  obtain ⟨_, _, _, _, _, _, _, _, rfl⟩ | ⟨_, _, _, rest, t', _, _, hrun, rfl⟩ | ⟨_, _, rfl⟩ := step_effects h
  · exact hs
  · have ht' : t'.uInv := runCommand_uInv (s := s.setPending rest) hs hrun
    exact ht'
  · rintro u ⟨⟩

/-! No check raises OK, and each check reads host-written state and the configuration alone (R36, R160). -/

theorem deriveCheck_code_ne_ok {c : Cfg} {h v r : Word} {e : CommandError} (he : deriveCheck c h v r = some e) :
    e.code ≠ .ok := by
  obtain ⟨_, rfl⟩ | ⟨_, _, rfl⟩ | ⟨_, _, _, rfl⟩ := deriveCheck_some c h v r e he <;> simp

theorem encodeCheck_code_ne_ok {c : Cfg} {h v r : Word} {e : CommandError} (he : encodeCheck c h v r = some e) :
    e.code ≠ .ok := by
  obtain ⟨_, rfl⟩ | ⟨_, _, rfl⟩ | ⟨_, _, _, rfl⟩ | ⟨_, _, _, _, rfl⟩ := encodeCheck_some c h v r e he <;> simp

theorem State.inputCheck_code_ne_ok {s : State} {e : CommandError} (he : s.inputCheck = some e) : e.code ≠ .ok := by
  obtain ⟨_, rfl⟩ | ⟨_, _, rfl⟩ | ⟨_, _, _, rfl⟩ := s.inputCheck_some e he <;> simp

theorem State.inputCheck_congr {s s' : State} (hlen : s'.inLen = s.inLen) (hbuf : s'.inBuf = s.inBuf) :
    s'.inputCheck = s.inputCheck := by
  unfold State.inputCheck State.lenOk State.hdrOk State.inSum
  rw [hlen, hbuf]

/-! The status word, field by field (R29). -/

theorem toNat_append_eq_add {m n : Nat} (x : BitVec m) (y : BitVec n) :
    (x ++ y).toNat = x.toNat * 2 ^ n + y.toNat := by
  rw [BitVec.toNat_append, ← Nat.shiftLeft_add_eq_or_of_lt y.isLt, Nat.shiftLeft_eq]

theorem State.statusWord_toNat (s : State) :
    s.statusWord.toNat =
      s.code.bits.toNat + 16 * s.field.bits.toNat + 256 * s.out.isSome.toNat + 512 * s.dGroup.isSome.toNat +
        1024 * s.uGroup.isSome.toNat + 2048 * s.dClkFits.toNat + 4096 * s.lastOp.toNat := by
  simp only [State.statusWord, toNat_append_eq_add, BitVec.toNat_ofBool, BitVec.toNat_ofNat]
  omega

theorem State.statusWord_lt (s : State) : s.statusWord.toNat < 65536 := by
  rw [s.statusWord_toNat]
  have := s.code.bits.isLt
  have := s.field.bits.isLt
  have := s.lastOp.isLt
  have := s.out.isSome.toNat_le
  have := s.dGroup.isSome.toNat_le
  have := s.uGroup.isSome.toNat_le
  have := s.dClkFits.toNat_le
  omega

theorem State.statusWord_code (s : State) : s.statusWord.toNat % 16 = s.code.bits.toNat := by
  have := s.statusWord_toNat
  have := s.code.bits.isLt
  omega

theorem State.statusWord_field (s : State) : s.statusWord.toNat / 16 % 16 = s.field.bits.toNat := by
  have := s.statusWord_toNat
  have := s.code.bits.isLt
  have := s.field.bits.isLt
  omega

/-! Reads of the result groups and of the rate table (R32, R33, R34). -/

/-- A read is answered unless its register is a member of an invalid group (R28, R56 step 5). -/
theorem State.readReg_eq_none_iff (s : State) (r : Reg) :
    s.readReg r = none ↔ ∃ g, regAccess r = .rGroup g ∧ s.groupValid g = false := by
  cases r <;> simp [State.readReg, regAccess, State.groupValid]

/-- A read at the offset of a register of an invalid group is a bus error (R28, R56). -/
theorem State.readIsBusError_of_readReg (s : State) (hw : s.cfg.wellFormed = true) {r : Reg}
    (h : s.readReg r = none) : s.readIsBusError (regOffset r) := by
  intro rest
  have hr : (State.setPending { s with pending := .read (BitVec.ofNat 12 (regOffset r)) 4 :: rest } rest).readReg r =
      none := by
    rw [← h, State.readReg_setPending]; cases r <;> rfl
  rw [step_deliver (x := .read (BitVec.ofNat 12 (regOffset r)) 4) (rest := rest) (by exact hw) rfl]
  simp only [deliver, deliverRead, busTarget_regOffset, Option.bind_some, hr]
  rfl

/-- Every register of a list of one invalid group's members is a bus error to read (R28). -/
theorem State.readIsBusError_of_invalid (s : State) (hw : s.cfg.wellFormed = true) {g : Group} {rs : List Reg}
    (hacc : ∀ r ∈ rs, regAccess r = .rGroup g) (hg : s.groupValid g = false) :
    ∀ off ∈ rs.map regOffset, s.readIsBusError off := by
  rw [List.forall_mem_map]
  exact fun r hr => s.readIsBusError_of_readReg hw ((s.readReg_eq_none_iff r).mpr ⟨g, hacc r hr, hg⟩)

/-- A member of a valid group is read at its register's offset (R28). -/
theorem State.reads_of_member (s : State) (hw : s.cfg.wellFormed = true) (r : Reg) {α : Type} {g : Option α} (x : α)
    {f : α → Word} (hg : g = some x) (hr : s.readReg r = g.map f) : s.reads (regOffset r) (f x) :=
  s.reads_of_readReg hw r _ (by rw [hr, hg, Option.map_some])

theorem extractLsb'_low_word (x : BitVec 64) : x.extractLsb' 0 32 = BitVec.ofNat 32 (x.toNat % 2 ^ 32) := by
  apply BitVec.eq_of_toNat_eq
  simp

theorem extractLsb'_high_word (x : BitVec 64) : x.extractLsb' 32 32 = BitVec.ofNat 32 (x.toNat / 2 ^ 32) := by
  apply BitVec.eq_of_toNat_eq
  simp [Nat.shiftRight_eq_div_pow]

theorem State.reads_rateCount (s : State) (hw : s.cfg.wellFormed = true) :
    s.reads 0x01C (BitVec.ofNat 32 s.cfg.rateSet.length) :=
  s.reads_of_readReg hw .rateCount _ rfl

theorem State.reads_rateTable (s : State) (hw : s.cfg.wellFormed = true) (i : Fin 32) :
    s.reads (0x080 + 4 * i.val) (BitVec.ofNat 32 (s.cfg.rateSet.getD i.val 0)) :=
  s.reads_of_readReg hw (.rateTable i) _ rfl

theorem reset_wellFormed : State.reset.cfg.wellFormed = true := by decide

end Sys2Proof.Machine

section

open Sys2Proof Sys2Proof.Machine

/-- Settles O50: DERIVE alone makes the D group valid, and on operands it accepts no parameter wraps. -/
theorem derivedParametersStayExact : Obligations.DerivedParametersStayExact :=
  fun _ _ hs h => step_dInv hs h

/-- Settles O7, by what a step can do. -/
theorem noStepChangesTheConfiguration : Obligations.NoStepChangesTheConfiguration :=
  fun _ _ h => step_cfg h

/-- Settles O12: the fields are read off the record update that `runCommand_writes` gives. -/
theorem commandsKeepTheWriteMatrix : Obligations.CommandsKeepTheWriteMatrix := by
  intro w s t h
  obtain ⟨_, _, _, _, _, _, rfl, hout, hd, hu⟩ := runCommand_writes h
  exact ⟨rfl, rfl, rfl, rfl, rfl, rfl, rfl, rfl, rfl, rfl, hout, hd, hu⟩

/-- Settles O13: each command ends in an error, whose code is not OK, or completes. -/
theorem ownGroupIsValidExactlyOnSuccess : Obligations.OwnGroupIsValidExactlyOnSuccess := by
  intro s
  refine ⟨?_, ?_, ?_, ?_⟩
  · obtain ⟨e, he, h⟩ | ⟨_, h⟩ := execEncode_cases s
    · exact ⟨_, h, by simp [State.raise, encodeCheck_code_ne_ok he], rfl, rfl⟩
    · exact ⟨_, h, by simp [State.complete], rfl, rfl⟩
  · obtain ⟨e, he, h⟩ | ⟨_, h⟩ := execDerive_cases s
    · exact ⟨_, h, by simp [State.raise, deriveCheck_code_ne_ok he], rfl, rfl⟩
    · exact ⟨_, h, by simp [State.complete], rfl, rfl⟩
  · obtain ⟨e, he, h⟩ | ⟨_, h⟩ := execUnpack_cases s
    · exact ⟨_, h, by simp [State.raise, State.inputCheck_code_ne_ok he], rfl, rfl⟩
    · exact ⟨_, h, by simp [State.complete], rfl, rfl⟩
  · obtain ⟨_, _, h⟩ | ⟨_, h⟩ := execValidate_cases s <;> exact ⟨_, h, rfl, rfl, rfl⟩

/-- Settles O14: the first failing check is the same in both states, so both raise it or both complete with the same
group. -/
theorem outcomeDependsOnHostStateAlone : Obligations.OutcomeDependsOnHostStateAlone := by
  intro i s s' hcfg hh hv hr hlen hbuf
  have hin := State.inputCheck_congr hlen hbuf
  cases i with
  | encode =>
    obtain ⟨e, he, h⟩ | ⟨he, h⟩ := execEncode_cases s <;> rw [← hcfg, ← hh, ← hv, ← hr] at he
    · exact ⟨_, _, h, execEncode_error s' e he, rfl, rfl, rfl, rfl, fun _ => rfl, nofun, nofun⟩
    · rw [← hcfg, ← hh, ← hv, ← hr] at h
      exact ⟨_, _, h, execEncode_ok s' he, rfl, rfl, rfl, rfl, fun _ => rfl, nofun, nofun⟩
  | validate =>
    obtain ⟨e, he, h⟩ | ⟨he, h⟩ := execValidate_cases s <;> rw [← hin] at he
    · exact ⟨_, _, h, execValidate_error s' e he, rfl, rfl, rfl, rfl, nofun, nofun, nofun⟩
    · exact ⟨_, _, h, execValidate_ok s' he, rfl, rfl, rfl, rfl, nofun, nofun, nofun⟩
  | derive =>
    obtain ⟨e, he, h⟩ | ⟨he, h⟩ := execDerive_cases s <;> rw [← hcfg, ← hh, ← hv, ← hr] at he
    · exact ⟨_, _, h, execDerive_error s' e he, rfl, rfl, rfl, rfl, nofun, fun _ => rfl, nofun⟩
    · rw [← hcfg, ← hh, ← hv, ← hr] at h
      exact ⟨_, _, h, execDerive_ok s' he, rfl, rfl, rfl, rfl, nofun, fun _ => rfl, nofun⟩
  | unpack =>
    obtain ⟨e, he, h⟩ | ⟨he, h⟩ := execUnpack_cases s <;> rw [← hin] at he
    · exact ⟨_, _, h, execUnpack_error s' e he, rfl, rfl, rfl, rfl, nofun, nofun, fun _ => rfl⟩
    · rw [← hbuf] at h
      exact ⟨_, _, h, execUnpack_ok s' he, rfl, rfl, rfl, rfl, nofun, nofun, fun _ => rfl⟩

/-- Settles O35, by the sum of the fields at their bits. -/
theorem statusWordLayout : Obligations.StatusWordLayout := by
  intro s
  refine ⟨s.statusWord_toNat, s.statusWord_lt, fun h => by simp only [State.dClkFits, h],
    fun d h => by simp only [State.dClkFits, h], ?_⟩
  rw [s.statusWord_code, s.statusWord_field]
  refine ⟨?_, ?_, ?_, ?_, ?_, ?_, ?_, ?_, ?_, ?_, ?_, ?_⟩ <;> intro h <;> rw [h] <;> rfl

/-- Settles O36: each offset is its register's, and the words of a 64-bit member are its remainder and quotient. -/
theorem dGroupReads : Obligations.DGroupReads := by
  intro s hw
  refine ⟨fun d hd => ?_, fun hd => s.readIsBusError_of_invalid hw (g := .d)
    (rs := [.dHtotal, .dVtotal, .dPclkLo, .dPclkHi, .dClk10kLo, .dClk10kHi]) (by decide)
    (by rw [State.groupValid, hd]; rfl)⟩
  simp only [← extractLsb'_low_word, ← extractLsb'_high_word]
  exact ⟨s.reads_of_member hw .dHtotal d hd rfl, s.reads_of_member hw .dVtotal d hd rfl,
    s.reads_of_member hw .dPclkLo d hd rfl, s.reads_of_member hw .dPclkHi d hd rfl,
    s.reads_of_member hw .dClk10kLo d hd rfl, s.reads_of_member hw .dClk10kHi d hd rfl⟩

/-- Settles O37: each offset is its register's. -/
theorem uGroupReads : Obligations.UGroupReads := by
  intro s hw
  refine ⟨fun u hu => ?_, fun hu => s.readIsBusError_of_invalid hw (g := .u)
    (rs := [.uClock10k, .uHact, .uHblank, .uVact, .uVblank, .uHso, .uHsp, .uVso, .uVsp]) (by decide)
    (by rw [State.groupValid, hu]; rfl)⟩
  exact ⟨s.reads_of_member hw .uClock10k u hu rfl, s.reads_of_member hw .uHact u hu rfl,
    s.reads_of_member hw .uHblank u hu rfl, s.reads_of_member hw .uVact u hu rfl,
    s.reads_of_member hw .uVblank u hu rfl, s.reads_of_member hw .uHso u hu rfl,
    s.reads_of_member hw .uHsp u hu rfl, s.reads_of_member hw .uVso u hu rfl, s.reads_of_member hw .uVsp u hu rfl⟩

/-- Settles O38, by the two reads of the configuration, which no step changes. -/
theorem rateTableReads : Obligations.RateTableReads := by
  refine ⟨fun s hw => ⟨s.reads_rateCount hw, fun i => ⟨fun r hr => ?_, fun hi => ?_⟩⟩, ?_,
    fun s t h => congrArg Cfg.rateSet (step_cfg h)⟩
  · have hread := s.reads_rateTable hw i
    rwa [List.getD_eq_getElem?_getD, hr] at hread
  · have hread := s.reads_rateTable hw i
    rwa [List.getD_eq_default _ _ hi] at hread
  · have hw := reset_wellFormed
    exact ⟨State.reset.reads_rateCount hw, State.reset.reads_rateTable hw 0, State.reset.reads_rateTable hw 1,
      State.reset.reads_rateTable hw 2, State.reset.reads_rateTable hw 3⟩

/-- Settles O51: UNPACK alone makes the U group valid, and it zero-extends each field. -/
theorem unpackedFieldsStayInWidth : Obligations.UnpackedFieldsStayInWidth :=
  fun _ _ hs h => step_uInv hs h

/-- Settles O34: each offset is its register's. -/
theorem registerReads : Obligations.RegisterReads := by
  intro s hw
  exact ⟨s.reads_of_readReg hw .cmd _ rfl, s.reads_of_readReg hw .status _ rfl, s.reads_of_readReg hw .info _ rfl,
    s.reads_of_readReg hw .argHact _ rfl, s.reads_of_readReg hw .argVact _ rfl,
    s.reads_of_readReg hw .argRate _ rfl, s.reads_of_readReg hw .inLen _ rfl⟩

end

/-! ### Memory (spec/20_memory.md): the register map, bus errors, writes, the windows and the records -/

namespace Sys2Proof.Machine

/-! The register map: a register and its offset determine each other, and the gaps are the listed ones (R51). -/

theorem regOffset_of_mem_namedRegs : ∀ p ∈ namedRegs, regOffset p.2 = p.1 := by decide

theorem regOffset_of_regAt {off : BitVec 12} {r : Reg} (h : regAt off = some r) : regOffset r = off.toNat := by
  unfold regAt at h
  split at h
  case h_1 p hp =>
    cases h
    exact (regOffset_of_mem_namedRegs p (List.mem_of_find?_eq_some hp)).trans
      (by simpa only [beq_iff_eq] using List.find?_some hp)
  case h_2 =>
    split at h <;> cases h
    case h_1 i hi => exact ((wordIndex_some_iff _ _ i).mp hi).symm
    case h_2 k _ hk => exact ((wordIndex_some_iff _ _ k).mp hk).symm
    case h_3 k _ _ hk => exact ((wordIndex_some_iff _ _ k).mp hk).symm

theorem regAt_eq_some_iff (off : BitVec 12) (r : Reg) : regAt off = some r ↔ regOffset r = off.toNat := by
  refine ⟨regOffset_of_regAt, fun h => ?_⟩
  rw [← regAt_regOffset r, h, BitVec.ofNat_toNat, BitVec.setWidth_eq]

theorem offsetMapped_regOffset (r : Reg) : offsetMapped (regOffset r) := by
  unfold offsetMapped
  cases r with
  | rateTable i | outW i | inW i => simp only [regOffset]; omega
  | _ => decide

/-- Below the rate table, every word-aligned offset outside the two gaps 0x038..0x03C and 0x064..0x07C is a named
register's (R51). -/
theorem namedRegs_cover : ∀ n < 0x064, n % 4 = 0 → (n ≤ 0x034 ∨ 0x040 ≤ n) → ∃ p ∈ namedRegs, p.1 = n := by decide

theorem exists_regOffset_of_offsetMapped {n : Nat} (h : offsetMapped n) : ∃ r, regOffset r = n := by
  obtain ⟨halign, hrange⟩ := h
  have hsplit : (n < 0x064 ∧ (n ≤ 0x034 ∨ 0x040 ≤ n)) ∨ (0x080 ≤ n ∧ n < 0x100) ∨ (0x100 ≤ n ∧ n < 0x180) ∨
      (0x200 ≤ n ∧ n < 0x280) := by omega
  obtain ⟨hlt, hgap⟩ | hrate | hout | hin := hsplit
  · obtain ⟨p, hp, rfl⟩ := namedRegs_cover n hlt halign hgap
    exact ⟨p.2, regOffset_of_mem_namedRegs p hp⟩
  · exact ⟨.rateTable ⟨(n - 0x080) / 4, by omega⟩, by simp only [regOffset]; omega⟩
  · exact ⟨.outW ⟨(n - 0x100) / 4, by omega⟩, by simp only [regOffset]; omega⟩
  · exact ⟨.inW ⟨(n - 0x200) / 4, by omega⟩, by simp only [regOffset]; omega⟩

theorem offsetMapped_iff (n : Nat) : offsetMapped n ↔ ∃ r, regOffset r = n :=
  ⟨exists_regOffset_of_offsetMapped, fun ⟨r, hr⟩ => hr ▸ offsetMapped_regOffset r⟩

theorem regAt_eq_none_iff (off : BitVec 12) : regAt off = none ↔ ¬ offsetMapped off.toNat := by
  simp only [offsetMapped_iff, not_exists, Option.eq_none_iff_forall_ne_some, ne_eq, regAt_eq_some_iff]

/-! The conditions of a bus error, as what the access finds (R56). -/

theorem busTarget_eq_some_iff (off : BitVec 12) (n : Nat) (r : Reg) :
    busTarget off n = some r ↔ n = 4 ∧ regOffset r = off.toNat := by
  rw [busTarget_some_iff, regAt_eq_some_iff]
  have := regOffset_lt_aligned r
  omega

theorem busTarget_eq_none_iff (off : BitVec 12) (n : Nat) : busTarget off n = none ↔ accessRejected off n := by
  rw [busTarget, accessRejected, ← regAt_eq_none_iff]
  split_ifs <;> simp_all

/-- An access that fails before or at its register, as a condition on the register it finds. -/
theorem accessRejected_or_iff (off : BitVec 12) (n : Nat) (P : Reg → Prop) :
    (accessRejected off n ∨ ∃ r, regOffset r = off.toNat ∧ P r) ↔ ∀ r, busTarget off n = some r → P r := by
  rw [← busTarget_eq_none_iff]
  cases hb : busTarget off n with
  | none => simp
  | some r =>
    have hr : ∀ r', regOffset r' = off.toNat ↔ r' = r := fun r' => by
      rw [← regAt_eq_some_iff, ((busTarget_some_iff _ _ _).mp hb).2.2, Option.some.injEq, eq_comm]
    simp [hr]

theorem State.readFaults_iff (s : State) (off : BitVec 12) (n : Nat) :
    s.readFaults off n ↔ ∀ r, busTarget off n = some r → s.readReg r = none := by
  simp only [State.readFaults, State.readReg_eq_none_iff, ← accessRejected_or_iff, exists_and_left]

/-- A register takes a write unless its access code is `R` or `R(G)` (R51, R56 step 4). -/
theorem writeReg_eq_none_iff (r : Reg) (v : Word) (s : State) :
    writeReg r v s = none ↔ regAccess r = .r ∨ ∃ g, regAccess r = .rGroup g := by
  cases r <;> simp [writeReg, regAccess]

theorem writeFaults_iff (off : BitVec 12) (n : Nat) (v : Word) (s : State) :
    writeFaults off n ↔ ∀ r, busTarget off n = some r → writeReg r v s = none := by
  simp only [writeFaults, writeReg_eq_none_iff, ← accessRejected_or_iff]

theorem deliverWrite_fault {off : BitVec 12} {n : Nat} (v : Word) (s : State) (hf : writeFaults off n) :
    deliverWrite off n v s = .next (s.busError off) := by
  obtain ⟨r, o, hb, hr, _⟩ | ⟨_, h⟩ := deliverWrite_cases off n v s
  · rw [(writeFaults_iff off n v s).mp hf r hb] at hr
    cases hr
  · exact h

/-! One step of a read and of a write (R50, R57, R58). -/

section

variable {s : State} {off : BitVec 12} {n : Nat} {v : Word} {rest : List HostInput}

/-- A read is answered by the register it finds, and changes nothing else (R57). -/
theorem step_read {r : Reg} (hw : s.cfg.wellFormed = true) (hp : s.pending = .read off n :: rest)
    (hb : busTarget off n = some r) (hr : s.readReg r = some v) :
    step s = .next { s with pending := rest, responses := s.responses ++ [.data v] } := by
  rw [step_deliver hw hp, deliver, deliverRead, hb, Option.bind_some, State.readReg_setPending, hr]
  rfl

theorem step_read_fault (hw : s.cfg.wellFormed = true) (hp : s.pending = .read off n :: rest)
    (hf : s.readFaults off n) : step s = .next ({ s with pending := rest }.afterBusError off) := by
  rw [step_deliver hw hp]
  obtain ⟨r, v, hb, hr, _⟩ | ⟨_, h⟩ := deliverRead_cases off n (s.setPending rest)
  · rw [State.readReg_setPending, (s.readFaults_iff off n).mp hf r hb] at hr
    cases hr
  · exact h

/-- What a register reads as does not depend on the host's inputs or on the answers to them. -/
theorem State.readReg_record (s : State) (p : List HostInput) (l : List Response) (r : Reg) :
    { s with pending := p, responses := l }.readReg r = s.readReg r := by
  cases r <;> rfl

theorem State.exists_read_of_not_readFaults (hf : ¬ s.readFaults off n) :
    ∃ r v, busTarget off n = some r ∧ s.readReg r = some v := by
  obtain ⟨r, v, hb, hr, _⟩ | ⟨hnone, _⟩ := deliverRead_cases off n s
  · exact ⟨r, v, hb, hr⟩
  · exact absurd ((s.readFaults_iff off n).mpr hnone) hf

/-- A 4-byte write at a register's offset has the register's effect, and is answered (R58). -/
theorem step_write {r : Reg} {t : State} (hw : s.cfg.wellFormed = true) (hp : s.pending = .write off 4 v :: rest)
    (hoff : regOffset r = off.toNat) (ht : writeReg r v (s.setPending rest) = some (.next t)) :
    step s = .next { t with responses := t.responses ++ [.written] } := by
  have hb : busTarget off 4 = some r := (busTarget_eq_some_iff off 4 r).mpr ⟨rfl, hoff⟩
  rw [step_deliver hw hp, deliver, deliverWrite, hb, Option.bind_some, ht]
  rfl

theorem step_write_fault (hw : s.cfg.wellFormed = true) (hp : s.pending = .write off n v :: rest)
    (hf : writeFaults off n) : step s = .next ({ s with pending := rest }.afterBusError off) :=
  (step_deliver hw hp).trans (deliverWrite_fault v _ hf)

end

/-- A register that takes a write is `CMD`, an argument register or a word of `IN`, so at no other offset does a write
find one (R58). -/
theorem writeFaults_of_not_writable {off : BitVec 12}
    (hnamed : off ∉ [0x000#12, 0x00C#12, 0x010#12, 0x014#12, 0x018#12])
    (hin : ∀ k : Fin 32, off.toNat ≠ 0x200 + 4 * k.val) (v : Word) (s : State) : writeFaults off 4 := by
  rw [writeFaults_iff off 4 v s]
  intro r hb
  have hr := ((busTarget_eq_some_iff off 4 r).mp hb).2
  have hoff : off = BitVec.ofNat 12 (regOffset r) := by rw [hr, BitVec.ofNat_toNat, BitVec.setWidth_eq]
  cases ho : writeReg r v s with
  | none => rfl
  | some o =>
    obtain ⟨rfl, _⟩ | ⟨rfl, _⟩ | ⟨rfl, _⟩ | ⟨rfl, _⟩ | ⟨rfl, _⟩ | ⟨k, rfl, _⟩ := writeReg_cases ho
    case inr.inr.inr.inr.inr => exact absurd hr.symm (hin k)
    all_goals exact absurd (by rw [hoff]; decide) hnamed

/-! The buffer windows (R52). -/

theorem wordOfBytes_toNat (b0 b1 b2 b3 : Byte) :
    (wordOfBytes b0 b1 b2 b3).toNat = b0.toNat + 256 * b1.toNat + 65536 * b2.toNat + 16777216 * b3.toNat := by
  simp only [wordOfBytes, toNat_append_eq_add]
  omega

/-- A word of the window holds byte `i` of the buffer at the position a window write takes it from (R52). -/
theorem bufWord_byte (b : Vector Byte 128) (k : Fin 32) (i : Nat) (hi : i < 128) (h : i / 4 = k.val) :
    (bufWord b k).extractLsb' (8 * (i % 4)) 8 = b[i] := by
  apply BitVec.eq_of_toNat_eq
  rw [BitVec.extractLsb'_toNat, Nat.shiftRight_eq_div_pow, bufWord, wordOfBytes_toNat]
  obtain ⟨k, hk⟩ := k
  obtain rfl | rfl | rfl | rfl : i = 4 * k ∨ i = 4 * k + 1 ∨ i = 4 * k + 2 ∨ i = 4 * k + 3 := by
    simp only at h; omega
  all_goals
    simp only [Nat.mul_add_mod, Nat.mul_mod_right, Nat.reduceMod, Nat.reduceMul, Nat.reducePow]
    omega

/-- An offset reads as one value. -/
theorem State.reads_unique {s : State} {off : Nat} {v w : Word} (hv : s.reads off v) (hw : s.reads off w) : v = w := by
  have h := (hv []).symm.trans (hw [])
  simpa using h

/-- Copying a word of OUT to the same word of IN takes exactly its four bytes over (R52, R88). -/
theorem setBufWord_bufWord (a b : Vector Byte 128) (k : Fin 32) (i : Nat) (hi : i < 128) :
    (setBufWord a k (bufWord b k))[i] = if i / 4 = k.val then b[i] else a[i] := by
  rw [setBufWord_getElem]
  split_ifs with h
  · exact bufWord_byte b k i hi h
  · rfl

/-! What an input leaves in the run's records: one response unless it is a reset, and at most one fault
(R56, R61). -/

/-- A register write leaves the records and the host's inputs to the bus. -/
theorem writeReg_records {r : Reg} {v : Word} {s t : State} (h : writeReg r v s = some (.next t)) :
    t.cfg = s.cfg ∧ t.pending = s.pending ∧ t.responses = s.responses ∧ t.faultLog = s.faultLog := by
  obtain ⟨_, ho⟩ | ⟨_, ho⟩ | ⟨_, ho⟩ | ⟨_, ho⟩ | ⟨_, ho⟩ | ⟨_, _, ho⟩ := writeReg_cases h
  case inl =>
    obtain ⟨_, _, _, _, _, _, rfl, _⟩ := runCommand_writes ho.symm
    exact ⟨rfl, rfl, rfl, rfl⟩
  all_goals
    cases ho
    exact ⟨rfl, rfl, rfl, rfl⟩

/-- A write that is no bus error completes, with one response and no fault (R56, R58). -/
theorem deliverWrite_legal {off : BitVec 12} {n : Nat} (v : Word) (s : State) (hf : ¬ writeFaults off n) :
    ∃ t, deliverWrite off n v s = .next t ∧ t.pending = s.pending ∧ t.faultLog = s.faultLog ∧
      t.responses = s.responses ++ [.written] := by
  obtain ⟨r, o, _, ho, h⟩ | ⟨hnone, _⟩ := deliverWrite_cases off n v s
  · obtain ⟨t, rfl⟩ := writeReg_next ho
    obtain ⟨_, hp, hresp, hlog⟩ := writeReg_records ho
    exact ⟨t.pushResponse .written, h, hp, hlog, by rw [State.pushResponse_responses, hresp]⟩
  · exact absurd ((writeFaults_iff off n v s).mpr hnone) hf

/-- The input is taken off the head and answered once, or not at all if it is a reset; at most one fault is
recorded. -/
theorem deliver_records {x : HostInput} {s t : State} (h : deliver x s = .next t) :
    t.pending = s.pending ∧
      (∃ l, t.responses = s.responses ++ l ∧ l.length = ([x].filter (· ≠ .reset)).length) ∧
      ∃ l, t.faultLog = s.faultLog ++ l ∧ l.length ≤ 1 := by
  cases x with
  | read off n =>
    obtain ⟨_, v, _, _, hd⟩ | ⟨_, hd⟩ := deliverRead_cases off n s <;> cases hd.symm.trans h
    · exact ⟨rfl, ⟨[.data v], rfl, rfl⟩, ⟨[], (List.append_nil _).symm, Nat.zero_le 1⟩⟩
    · exact ⟨rfl, ⟨[_], rfl, rfl⟩, ⟨[_], rfl, le_rfl⟩⟩
  | write off n v =>
    by_cases hf : writeFaults off n
    · cases (deliverWrite_fault v s hf).symm.trans h
      exact ⟨rfl, ⟨[_], rfl, rfl⟩, ⟨[_], rfl, le_rfl⟩⟩
    · obtain ⟨t', hd, hp, hlog, hresp⟩ := deliverWrite_legal v s hf
      cases hd.symm.trans h
      exact ⟨hp, ⟨_, hresp, rfl⟩, ⟨[], by rw [hlog, List.append_nil], Nat.zero_le 1⟩⟩
  | reset =>
    cases h
    exact ⟨rfl, ⟨[], (List.append_nil _).symm, rfl⟩, ⟨[], (List.append_nil _).symm, Nat.zero_le 1⟩⟩

/-! Runs of several steps. -/

theorem run_succ {s t : State} (h : step s = .next t) (k : Nat) :
    Host.Core.run Sys2Proof.core (k + 1) s = Host.Core.run Sys2Proof.core k t := by
  have hc : Sys2Proof.core.step s = .next t := h
  simp only [Host.Core.run, hc]

/-- The inputs at the head of the list are delivered in order, and none stops the block (R61, R191). -/
theorem run_delivers (sent : List HostInput) :
    ∀ {s : State} {rest : List HostInput}, s.cfg.wellFormed = true → s.pending = sent ++ rest →
      ∃ t, Host.Core.run Sys2Proof.core sent.length s = .next t ∧ t.pending = rest ∧ t.cfg = s.cfg ∧
        t.responses.length = s.responses.length + (sent.filter (· ≠ .reset)).length := by
  induction sent with
  | nil => exact fun {s} _ _ hp => ⟨s, rfl, hp, rfl, rfl⟩
  | cons x sent ih =>
    intro s rest hw hp
    obtain ⟨t, ht⟩ := step_next hw
    have hcfg := step_cfg ht
    obtain ⟨hpend, ⟨l, hresp, hlen⟩, _⟩ := deliver_records ((step_deliver hw hp).symm.trans ht)
    obtain ⟨u, hrun, hpend', hcfg', hlen'⟩ := ih (hcfg ▸ hw) hpend
    refine ⟨u, (run_succ ht _).trans hrun, hpend', hcfg'.trans hcfg, ?_⟩
    rw [hlen', hresp, List.length_append, hlen, ← List.singleton_append (l := sent), List.filter_append,
      List.length_append, State.setPending_responses, Nat.add_assoc]

end Sys2Proof.Machine

section

open Sys2Proof Sys2Proof.Machine

/-- Settles O5: a register found at an offset is the one whose offset it is, and the mapped offsets are the registers'
own. -/
theorem registerMapIsOneToOne : Obligations.RegisterMapIsOneToOne :=
  fun off => ⟨regAt_eq_some_iff off, regAt_eq_none_iff off⟩

/-- Settles O28: the conditions are exactly that the access finds no register that answers it. -/
theorem busErrorsAreExactlyTheFiveConditions : Obligations.BusErrorsAreExactlyTheFiveConditions := by
  intro s off n rest hw
  refine ⟨fun hp => ⟨step_read_fault hw hp, fun hf => ?_⟩, fun v hp => ⟨step_write_fault hw hp, fun hf => ?_⟩,
    s.reads_of_readReg hw .cmd _ rfl⟩
  · obtain ⟨r, v, hb, hr⟩ := s.exists_read_of_not_readFaults hf
    exact ⟨v, step_read hw hp hb hr⟩
  · obtain ⟨t, ht, _, hlog, hresp⟩ := deliverWrite_legal v (s.setPending rest) hf
    exact ⟨t, (step_deliver hw hp).trans ht, hlog, hresp⟩

/-- Settles O30: the second read finds the same register, which the first one left alone. -/
theorem readsAreIdempotent : Obligations.ReadsAreIdempotent := by
  intro s off rest hw hp hf
  obtain ⟨r, v, hb, hr⟩ := s.exists_read_of_not_readFaults hf
  refine ⟨v, ?_⟩
  have hfirst := step_read hw hp hb hr
  have hsecond := step_read (s := { s with pending := .read off 4 :: rest, responses := s.responses ++ [.data v] })
    hw rfl hb ((s.readReg_record _ _ r).trans hr)
  simp only [List.append_assoc, List.cons_append, List.nil_append] at hsecond
  exact (run_succ hfirst 1).trans (run_succ hsecond 0)

/-- Settles O31, by the register at each offset and by the offsets at which there is no register to write. -/
theorem writesActAsTheirRegister : Obligations.WritesActAsTheirRegister := by
  intro s off v rest hw hp
  refine ⟨?_, ?_, ?_, ?_, fun k hk => ?_, ?_, fun hnamed hin => ?_⟩
  · rintro rfl
    exact step_write (r := .argHact) hw hp rfl rfl
  · rintro rfl
    exact step_write (r := .argVact) hw hp rfl rfl
  · rintro rfl
    exact step_write (r := .argRate) hw hp rfl rfl
  · rintro rfl
    exact step_write (r := .inLen) hw hp rfl rfl
  · exact ⟨setBufWord s.inBuf k v, step_write (r := .inW k) hw hp hk.symm rfl,
      fun i => setBufWord_getElem s.inBuf k v i.val i.isLt⟩
  · rintro rfl
    obtain ⟨t, ht⟩ := runCommand_next v (s.setPending rest)
    exact ⟨t, ht, step_write (r := .cmd) hw hp rfl (congrArg some ht)⟩
  · exact step_write_fault hw hp (writeFaults_of_not_writable hnamed hin v s)

/-- Settles O32, by the value of a word of four bytes. -/
theorem windowsAreLittleEndian : Obligations.WindowsAreLittleEndian := by
  intro s k hw
  exact ⟨⟨bufWord s.inBuf k, s.reads_of_readReg hw (.inW k) _ rfl, wordOfBytes_toNat _ _ _ _⟩,
    fun b hb => ⟨bufWord b k, s.reads_of_member hw (.outW k) (f := (bufWord · k)) b hb rfl,
      wordOfBytes_toNat _ _ _ _⟩⟩

/-- Settles O33: the word read is word `k` of OUT, whose bytes the window write takes back apart. -/
theorem copyOutInCopiesTheBytes : Obligations.CopyOutInCopiesTheBytes := by
  intro s b k w rest hw hout hread hp
  have hword : w = bufWord b k := State.reads_unique hread
    (s.reads_of_member hw (.outW k) (f := (bufWord · k)) b hout rfl)
  subst hword
  have hoff : regOffset (.inW k) = (BitVec.ofNat 12 (0x200 + 4 * k.val)).toNat := by
    rw [BitVec.toNat_ofNat, regOffset]
    omega
  exact ⟨_, step_write (r := .inW k) hw hp hoff rfl, fun i => setBufWord_bufWord s.inBuf b k i.val i.isLt⟩

/-- Settles O53, by induction on the inputs sent. -/
theorem everyInputIsDelivered : Obligations.EveryInputIsDelivered :=
  fun _ sent _ hw hp => run_delivers sent hw hp

/-- Settles O54: an idle step adds nothing, and an input at most one entry to each record. -/
theorem recordsOnlyGrow : Obligations.RecordsOnlyGrow := by
  intro s t h
  obtain ⟨_, ⟨_, rfl⟩ | ⟨x, rest, _, hx⟩⟩ := step_cases h
  · exact ⟨List.prefix_rfl, List.prefix_rfl, Nat.le_succ _, Nat.le_succ _⟩
  · obtain ⟨_, ⟨l, hresp, hl⟩, m, hlog, hm⟩ := deliver_records hx
    have hl1 : l.length ≤ 1 := hl ▸ List.length_filter_le _ [x]
    rw [hresp, hlog, List.length_append, List.length_append]
    exact ⟨List.prefix_append s.faultLog m, List.prefix_append s.responses l, Nat.add_le_add_left hm _,
      Nat.add_le_add_left hl1 _⟩

/-- Settles O1: a write at `CMD` runs the decoded command on the state whose next input is taken off. -/
theorem stepRunsTheDecodedCommand : Obligations.StepRunsTheDecodedCommand := by
  intro s w i rest hw hp hdec
  obtain ⟨t, ht⟩ := exec_next i (s.setPending rest)
  have hrun : runCommand w (s.setPending rest) = .next t := by rw [runCommand, hdec]; exact ht
  exact ⟨t, ht, step_write (r := .cmd) hw hp rfl (congrArg some hrun)⟩

end

/-! ### Encoding (spec/30_encoding.md): the command word, and the pseudo-instructions step by step -/

namespace Sys2Proof

/-- A command's own word selects it (R71). -/
theorem decode_encode (i : Instr) : decode (encode i) = .command i := by
  cases i <;> decide

theorem decode_eq_command_iff (w : Word) (i : Instr) : decode w = .command i ↔ w = encode i :=
  ⟨eq_encode_of_decode, fun h => h ▸ decode_encode i⟩

end Sys2Proof

namespace Sys2Proof.Machine

theorem runCommand_encode (i : Instr) (s : State) : runCommand (encode i) s = exec i s := by
  rw [runCommand, decode_encode]

/-! One step of a host statement (R87). -/

theorem toNat_ofNat_regOffset (r : Reg) : (BitVec.ofNat 12 (regOffset r)).toNat = regOffset r := by
  rw [BitVec.toNat_ofNat, Nat.mod_eq_of_lt (regOffset_lt_aligned r).1]

section

variable {s : State} {r : Reg} {v : Word} {rest : List HostInput}

theorem step_wr {t : State} (hw : s.cfg.wellFormed = true) (hp : s.pending = wr r v :: rest)
    (ht : writeReg r v (s.setPending rest) = some (.next t)) :
    step s = .next { t with responses := t.responses ++ [.written] } :=
  step_write hw hp (toNat_ofNat_regOffset r).symm ht

theorem step_wr_argHact (hw : s.cfg.wellFormed = true) (hp : s.pending = wr .argHact v :: rest) :
    step s = .next { s with argHact := v, pending := rest, responses := s.responses ++ [.written] } :=
  step_wr hw hp rfl

theorem step_wr_argVact (hw : s.cfg.wellFormed = true) (hp : s.pending = wr .argVact v :: rest) :
    step s = .next { s with argVact := v, pending := rest, responses := s.responses ++ [.written] } :=
  step_wr hw hp rfl

theorem step_wr_argRate (hw : s.cfg.wellFormed = true) (hp : s.pending = wr .argRate v :: rest) :
    step s = .next { s with argRate := v, pending := rest, responses := s.responses ++ [.written] } :=
  step_wr hw hp rfl

theorem step_wr_inLen (hw : s.cfg.wellFormed = true) (hp : s.pending = wr .inLen v :: rest) :
    step s = .next { s with inLen := v, pending := rest, responses := s.responses ++ [.written] } :=
  step_wr hw hp rfl

theorem step_wr_inW {k : Fin 32} (hw : s.cfg.wellFormed = true) (hp : s.pending = wr (.inW k) v :: rest) :
    step s = .next { s with inBuf := setBufWord s.inBuf k v, pending := rest,
                            responses := s.responses ++ [.written] } :=
  step_wr hw hp rfl

theorem step_rd (hw : s.cfg.wellFormed = true) (hp : s.pending = rd r :: rest) (hr : s.readReg r = some v) :
    step s = .next { s with pending := rest, responses := s.responses ++ [.data v] } :=
  step_read hw hp (busTarget_regOffset r) hr

theorem step_cmd {i : Instr} {t : State} (hw : s.cfg.wellFormed = true) (hp : s.pending = cmd i :: rest)
    (ht : exec i (s.setPending rest) = .next t) :
    step s = .next { t with responses := t.responses ++ [.written] } :=
  step_wr hw hp (congrArg some ((runCommand_encode i _).trans ht))

end

/-! Runs compose. -/

theorem run_of_step {s t u : State} {k : Nat} (h : step s = .next t)
    (hu : Host.Core.run Sys2Proof.core k t = .next u) : Host.Core.run Sys2Proof.core (k + 1) s = .next u :=
  (run_succ h k).trans hu

theorem run_add_of_run {M : Host.Core} {m n : Nat} {s t u : M.State} (h : M.run m s = .next t)
    (hu : M.run n t = .next u) : M.run (m + n) s = .next u := by
  induction m generalizing s with
  | zero =>
    cases h
    rwa [Nat.zero_add]
  | succ m ih =>
    rw [Nat.add_right_comm]
    unfold Host.Core.run at h ⊢
    split at h
    case h_1 => exact ih h
    all_goals cases h

/-- Three stores to the argument registers and a command run the command on those operands (R63, R88). -/
theorem run_storeOperands_cmd (i : Instr) {s : State} {h v r : Word} {rest : List HostInput}
    (hw : s.cfg.wellFormed = true)
    (hp : s.pending = [wr .argHact h, wr .argVact v, wr .argRate r, cmd i] ++ rest) :
    ∃ t, exec i { s with argHact := h, argVact := v, argRate := r, pending := rest,
                         responses := s.responses ++ [.written, .written, .written] } = .next t ∧
      Host.Core.run Sys2Proof.core 4 s = .next { t with responses := t.responses ++ [.written] } := by
  rw [List.append_cons s.responses, List.append_cons (s.responses ++ _)]
  obtain ⟨t, ht⟩ := exec_next i { s with
    argHact := h, argVact := v, argRate := r, pending := rest,
    responses := s.responses ++ [.written] ++ [.written] ++ [.written] }
  exact ⟨t, ht, run_of_step (step_wr_argHact hw hp) (run_of_step (step_wr_argVact hw rfl)
    (run_of_step (step_wr_argRate hw rfl) (run_of_step (step_cmd hw rfl ht) rfl)))⟩

/-! Filling `IN` word by word (R52, R88). -/

/-- The buffer `a` after the words `ks` of `b` are written to it in turn. -/
def copyWords (b : Vector Byte 128) (ks : List (Fin 32)) (a : Vector Byte 128) : Vector Byte 128 :=
  ks.foldl (fun a k => setBufWord a k (bufWord b k)) a

theorem copyWords_cons (b : Vector Byte 128) (k : Fin 32) (ks : List (Fin 32)) (a : Vector Byte 128) :
    copyWords b (k :: ks) a = copyWords b ks (setBufWord a k (bufWord b k)) := rfl

/-- Byte `i` stands in word `i / 4`, so it is `b`'s exactly if that word is among those written (R52). -/
theorem copyWords_getElem (b : Vector Byte 128) (ks : List (Fin 32)) (a : Vector Byte 128) (i : Nat) (hi : i < 128) :
    (copyWords b ks a)[i] = if (⟨i / 4, by omega⟩ : Fin 32) ∈ ks then b[i] else a[i] := by
  induction ks generalizing a with
  | nil => rfl
  | cons k ks ih =>
    simp only [copyWords_cons, ih, setBufWord_bufWord, List.mem_cons, Fin.ext_iff]
    by_cases hks : (⟨i / 4, by omega⟩ : Fin 32) ∈ ks
    · rw [if_pos hks, if_pos (.inr hks)]
    · simp only [hks, if_false, or_false]

/-- All 32 words are the whole buffer. -/
theorem copyWords_finRange (b a : Vector Byte 128) : copyWords b (List.finRange 32) a = b := by
  ext i hi
  rw [copyWords_getElem, if_pos (List.mem_finRange _)]

/-- With `o` as the OUT group, the inputs `sent` copy word `k` of `b` to `IN`, are answered by `resp`, and change
nothing else. -/
def CopiesWord (o : Option (Vector Byte 128)) (b : Vector Byte 128) (k : Fin 32) (sent : List HostInput)
    (resp : List Response) : Prop :=
  ∀ (s : State) (rest : List HostInput), s.cfg.wellFormed = true → s.out = o → s.pending = sent ++ rest →
    Host.Core.run Sys2Proof.core sent.length s =
      .next { s with inBuf := setBufWord s.inBuf k (bufWord b k), pending := rest,
                     responses := s.responses ++ resp }

theorem copiesWord_wr (o : Option (Vector Byte 128)) (b : Vector Byte 128) (k : Fin 32) :
    CopiesWord o b k [wr (.inW k) (bufWord b k)] [.written] :=
  fun _ _ hw _ hp => run_of_step (step_wr_inW hw hp) rfl

theorem copiesWord_rd_wr (b : Vector Byte 128) (k : Fin 32) :
    CopiesWord (some b) b k [rd (.outW k), wr (.inW k) (bufWord b k)] [.data (bufWord b k), .written] := by
  intro s rest hw ho hp
  have hread : s.readReg (.outW k) = some (bufWord b k) := by rw [State.readReg, ho]; rfl
  rw [List.append_cons s.responses]
  exact run_of_step (step_rd hw hp hread) (run_of_step (step_wr_inW hw rfl) rfl)

section

variable {o : Option (Vector Byte 128)} {b : Vector Byte 128} {sent : Fin 32 → List HostInput}
  {resp : Fin 32 → List Response} (hword : ∀ k, CopiesWord o b k (sent k) (resp k))

include hword

/-- By induction on the words: each is copied, then the rest. -/
theorem run_copyWords (ks : List (Fin 32)) : ∀ {s : State} {rest : List HostInput}, s.cfg.wellFormed = true →
    s.out = o → s.pending = ks.flatMap sent ++ rest →
    Host.Core.run Sys2Proof.core (ks.flatMap sent).length s =
      .next { s with inBuf := copyWords b ks s.inBuf, pending := rest,
                     responses := s.responses ++ ks.flatMap resp } := by
  induction ks with
  | nil =>
    rintro s rest _ _ rfl
    simp [Host.Core.run, copyWords]
  | cons k ks ih =>
    intro s rest hw ho hp
    rw [List.flatMap_cons, List.append_assoc] at hp
    rw [List.flatMap_cons, List.length_append, List.flatMap_cons, ← List.append_assoc]
    exact run_add_of_run (hword k s _ hw ho hp) (ih hw ho rfl)

/-- The 32 words of `b` and then `IN_LEN`: the common shape of `load_in` and `copy_out_in` (R88). -/
theorem run_fillBuffer {s : State} {len : Word} {rest : List HostInput} (hw : s.cfg.wellFormed = true)
    (ho : s.out = o) (hp : s.pending = ((List.finRange 32).flatMap sent ++ [wr .inLen len]) ++ rest) :
    Host.Core.run Sys2Proof.core ((List.finRange 32).flatMap sent ++ [wr .inLen len]).length s =
      .next { s with inBuf := b, inLen := len, pending := rest,
                     responses := s.responses ++ (List.finRange 32).flatMap resp ++ [.written] } := by
  rw [List.append_assoc] at hp
  have hwords := run_copyWords hword (List.finRange 32) hw ho hp
  rw [copyWords_finRange] at hwords
  rw [List.length_append]
  exact run_add_of_run hwords (run_of_step (step_wr_inLen hw rfl) rfl)

end

end Sys2Proof.Machine

section

open Sys2Proof Sys2Proof.Machine

/-- Settles O3: a word is put back together from its two fields, and each full word decodes to its command. -/
theorem onlyTheFourWordsAreCommands : Obligations.OnlyTheFourWordsAreCommands :=
  ⟨decode_eq_command_iff, rfl, rfl, rfl, rfl⟩

/-- Settles O41: three register writes, then the command on the state they leave. -/
theorem pseudoCommandsRunOnTheirOperands : Obligations.PseudoCommandsRunOnTheirOperands :=
  fun _ _ _ _ _ hw => ⟨run_storeOperands_cmd .encode hw, run_storeOperands_cmd .derive hw⟩

/-- Settles O42: each write copies its word, and the 32 words are the whole buffer. -/
theorem loadInFillsTheBuffer : Obligations.LoadInFillsTheBuffer := by
  intro s b len rest hw hp
  rw [expand, List.map_eq_flatMap] at hp
  have hrun := run_fillBuffer (copiesWord_wr s.out b) hw rfl hp
  rw [List.append_assoc] at hrun
  exact hrun

/-- Settles O43: each read answers a word of OUT and each write copies it, and the 32 words are the whole buffer. -/
theorem copyOutInCopiesTheBlock : Obligations.CopyOutInCopiesTheBlock := by
  intro s b t rest hw hout hread hp
  have ht : ∀ k : Fin 32, t[k] = bufWord b k := fun k =>
    State.reads_unique (hread k) (s.reads_of_member hw (.outW k) (f := (bufWord · k)) b hout rfl)
  simp only [expand, ht] at hp ⊢
  exact run_fillBuffer (copiesWord_rd_wr b) hw hout hp

/-- Settles O4: the four commands' words by the opcode map, the others by their fields. -/
theorem specWordsDecode : Obligations.SpecWordsDecode :=
  ⟨decode_encode .encode, decode_encode .validate, decode_encode .derive, decode_encode .unpack,
    by decide, by decide, by decide, by decide, by decide, by decide⟩

end

/-! ### The timing derivation (spec/40_derive.md): rounding, the rate check, DERIVE and its agreement with ENCODE -/

namespace Sys2Proof.Machine

/-! The rounding error (R11, R103). -/

/-- A nearest mode rounds down only from a remainder of at most half the divisor, and up only from at least half. -/
theorem roundq_nearest_cases (n d : Nat) {m : Rounding} (hm : m ≠ .floor) :
    (roundq n d m = n / d ∧ 2 * (n % d) ≤ d) ∨ (roundq n d m = n / d + 1 ∧ d ≤ 2 * (n % d)) := by
  cases m with
  | nearestTiesEven => simp only [roundq]; split_ifs <;> omega
  | nearestTiesAway => simp only [roundq]; split_ifs <;> omega
  | floor => exact absurd rfl hm

/-- A nearest mode is off by at most half the divisor, on either side. -/
theorem roundq_nearest_error (n : Nat) {d : Nat} (hd : 0 < d) {m : Rounding} (hm : m ≠ .floor) :
    2 * (roundq n d m * d) ≤ 2 * n + d ∧ 2 * n ≤ 2 * (roundq n d m * d) + d := by
  have hn : n / d * d + n % d = n := Nat.div_add_mod' n d
  have hlt : n % d < d := Nat.mod_lt n hd
  obtain ⟨hq, hrem⟩ | ⟨hq, hrem⟩ := roundq_nearest_cases n d hm
  · rw [hq]
    omega
  · rw [hq, Nat.add_one_mul (n / d)]
    omega

/-- FLOOR falls short by less than the divisor. -/
theorem roundq_floor_error (n : Nat) {d : Nat} (hd : 0 < d) :
    roundq n d .floor * d ≤ n ∧ n < roundq n d .floor * d + d :=
  ⟨Nat.div_mul_le_self n d, Nat.lt_div_mul_add hd⟩

/-- The bound of `roundq_nearest_error` at the 10 kHz unit (R103). -/
theorem clk10k_nearest_error {m : Rounding} (hm : m ≠ .floor) (h v r : Nat) :
    clk10k m h v r * 10000 ≤ pclkHz h v r + 5000 ∧ pclkHz h v r ≤ clk10k m h v r * 10000 + 5000 := by
  have herr : 2 * (clk10k m h v r * 10000) ≤ 2 * pclkHz h v r + 10000 ∧
      2 * pclkHz h v r ≤ 2 * (clk10k m h v r * 10000) + 10000 := roundq_nearest_error _ (by decide) hm
  omega

/-! The first failing check, read off the operands (R105, R126, R166). -/

section

variable {c : Cfg} {h v r : Word}

theorem deriveCheck_of_unlisted_rate (hr : r.toNat ∉ c.rateSet) :
    deriveCheck c h v r = some ⟨.unsupportedRefreshRate, .noField, r⟩ :=
  if_pos (mt (rateOk_iff c r).mp hr)

theorem deriveCheck_of_wide_hact (hr : r.toNat ∈ c.rateSet) (hh : 65535 < h.toNat) :
    deriveCheck c h v r = some ⟨.fieldOverflow, .hActive, h⟩ :=
  (if_neg (not_not_intro ((rateOk_iff c r).mpr hr))).trans (if_pos hh)

theorem deriveCheck_of_wide_vact (hr : r.toNat ∈ c.rateSet) (hh : h.toNat ≤ 65535) (hv : 65535 < v.toNat) :
    deriveCheck c h v r = some ⟨.fieldOverflow, .vActive, v⟩ :=
  (if_neg (not_not_intro ((rateOk_iff c r).mpr hr))).trans ((if_neg hh.not_gt).trans (if_pos hv))

theorem encodeCheck_of_wide_hact (hr : r.toNat ∈ c.rateSet) (hh : 4095 < h.toNat) :
    encodeCheck c h v r = some ⟨.fieldOverflow, .hActive, h⟩ :=
  (if_neg (not_not_intro ((rateOk_iff c r).mpr hr))).trans (if_pos hh)

/-- ENCODE's checks are the stricter ones (R106). -/
theorem deriveCheck_none_of_encodeCheck_none (he : encodeCheck c h v r = none) : deriveCheck c h v r = none := by
  obtain ⟨hr, hh, hv, _⟩ := (encodeCheck_none_iff c h v r).mp he
  exact (deriveCheck_none_iff c h v r).mpr ⟨hr, hh.trans (by decide), hv.trans (by decide)⟩

end

/-! The clock and the totals on either side of R106. -/

/-- Within ENCODE's limits the totals and the clock are exact whatever the rate is; R106 asks for no well-formed
configuration, so a listed rate need not have 16 bits. -/
theorem derivedGroup_exact_of_clk10k_le {m : Rounding} {h v r : Nat} (hh : h ≤ 4095) (hv : v ≤ 4095)
    (hc : clk10k m h v r ≤ 65535) :
    (derivedGroup m h v r).hTotal.toNat = h + 160 ∧ (derivedGroup m h v r).vTotal.toNat = v + 45 ∧
      (derivedGroup m h v r).clk10k.toNat = clk10k m h v r := by
  refine ⟨?_, ?_, ?_⟩
  · exact (BitVec.toNat_ofNat _ _).trans (Nat.mod_eq_of_lt (show h + 160 < 2 ^ 32 by omega))
  · exact (BitVec.toNat_ofNat _ _).trans (Nat.mod_eq_of_lt (show v + 45 < 2 ^ 32 by omega))
  · exact (BitVec.toNat_ofNat _ _).trans (Nat.mod_eq_of_lt (by omega))

theorem outBlock_clockLo (c : Cfg) (h v clk : Nat) :
    (outBlock c h v clk)[54].toNat = clk % 256 := by
  have hbyte : (outBlock c h v clk)[54] = (BitVec.ofNat 16 clk).extractLsb' 0 8 :=
    outBlock_field c h v clk 0 (by decide)
  rw [hbyte, BitVec.extractLsb'_toNat, BitVec.toNat_ofNat, Nat.shiftRight_zero]
  omega

theorem outBlock_clockHi (c : Cfg) (h v : Nat) {clk : Nat} (hc : clk ≤ 65535) :
    (outBlock c h v clk)[55].toNat = clk / 256 := by
  have hbyte : (outBlock c h v clk)[55] = (BitVec.ofNat 16 clk).extractLsb' 8 8 :=
    outBlock_field c h v clk 1 (by decide)
  rw [hbyte, BitVec.extractLsb'_toNat, BitVec.toNat_ofNat, Nat.shiftRight_eq_div_pow]
  omega

/-- The clock is packed low byte first (R80). -/
theorem outBlock_clock (c : Cfg) (h v : Nat) {clk : Nat} (hc : clk ≤ 65535) :
    (outBlock c h v clk)[54].toNat + 256 * (outBlock c h v clk)[55].toNat = clk := by
  rw [outBlock_clockLo, outBlock_clockHi c h v hc, Nat.mod_add_div]

/-- A successful ENCODE passed every check, and OUT holds its block (R126). -/
theorem execEncode_succeeds {s t : State} (h : execEncode s = .next t) (hok : t.code = .ok) :
    encodeCheck s.cfg s.argHact s.argVact s.argRate = none ∧
      t.out = some (outBlock s.cfg s.argHact.toNat s.argVact.toNat
        (clk10k s.cfg.clockRounding s.argHact.toNat s.argVact.toNat s.argRate.toNat)) := by
  obtain ⟨e, he, ht⟩ | ⟨he, ht⟩ := execEncode_cases s <;> cases ht.symm.trans h
  · exact absurd hok (encodeCheck_code_ne_ok he)
  · exact ⟨he, rfl⟩

/-- The exact clock of the source's mode leaves a remainder above half of 10 kHz, so both nearest modes round up
(C1). -/
theorem derivedGroup_sourceMode {m : Rounding} (hm : m ≠ .floor) :
    derivedGroup m 5120 1440 60 =
      { hTotal := 5280, vTotal := 1485, pclk := 470448000, clk10k := 47045, clkFits := true } := by
  cases m with
  | nearestTiesEven => decide
  | nearestTiesAway => decide
  | floor => exact absurd rfl hm

end Sys2Proof.Machine

section

open Sys2Proof Sys2Proof.Machine

/-- Settles O9: one clause per check, and the group of accepted operands is exact because a listed rate has 16 bits. -/
theorem deriveOutcome : Obligations.DeriveOutcome := by
  refine ⟨decode_encode .derive, ?_⟩
  rintro s _ _ _ _ _ hw rfl rfl rfl rfl rfl
  refine ⟨fun hr => execDerive_error s _ (deriveCheck_of_unlisted_rate hr),
    fun hr hh => execDerive_error s _ (deriveCheck_of_wide_hact hr hh),
    fun hr hh hv => execDerive_error s _ (deriveCheck_of_wide_vact hr hh hv), fun hr hh hv => ?_⟩
  have hr16 := rate_le_of_wellFormed hw hr
  obtain ⟨hht, hvt, hpc, hck, hfit⟩ := derivedGroup_exact s.cfg.clockRounding hh hv hr16
  exact ⟨_, execDerive_ok s ((deriveCheck_none_iff _ _ _ _).mpr ⟨hr, hh, hv⟩), hht, hvt, hpc, hck, hfit,
    pclkHz_lt hh hv hr16, clk10k_lt _ hh hv hr16⟩

/-- Settles O22: ENCODE's checks imply DERIVE's, and both commands take the one clock, which fits 16 bits. -/
theorem deriveAgreesWithEncode : Obligations.DeriveAgreesWithEncode := by
  intro s t b h hok hout
  obtain ⟨he, hblock⟩ := execEncode_succeeds h hok
  obtain rfl := Option.some.inj (hblock.symm.trans hout)
  obtain ⟨_, hh, hv, hc⟩ := (encodeCheck_none_iff _ _ _ _).mp he
  obtain ⟨hht, hvt, hck⟩ := derivedGroup_exact_of_clk10k_le hh hv hc
  exact ⟨_, _, execDerive_ok s (deriveCheck_none_of_encodeCheck_none he), rfl, rfl, (clkFits_iff _).mpr hc,
    hck.trans (outBlock_clock _ _ _ hc).symm, hht, hvt⟩

/-- Settles O23, by the error of `roundq` in each mode. -/
theorem roundingErrorIsBounded : Obligations.RoundingErrorIsBounded := by
  intro h v r
  refine ⟨?_, roundq_floor_error (pclkHz h v r) (by decide)⟩
  rintro m (rfl | rfl) <;> exact clk10k_nearest_error (by decide) h v r

/-- Settles O26: the check compares numbers, and a word is determined by its number. -/
theorem onlyListedRatesAreSupported : Obligations.OnlyListedRatesAreSupported := by
  refine ⟨fun c r => ?_, fun r => ?_⟩
  · rw [rateOk_iff, exists_eq_right]
  · simp [rateOk_iff, Config.built, defaultRates, ← BitVec.toNat_inj]

/-- Settles O27: the operands pass DERIVE's checks, and ENCODE's check of `h` is the first that fails. -/
theorem sourceScenario : Obligations.SourceScenario := by
  intro s hh hv hr h60 hm
  have hrate : s.argRate.toNat ∈ s.cfg.rateSet := by rw [hr]; exact h60
  have hderive : deriveCheck s.cfg s.argHact s.argVact s.argRate = none :=
    (deriveCheck_none_iff _ _ _ _).mpr ⟨hrate, by rw [hh]; decide, by rw [hv]; decide⟩
  have hencode : encodeCheck s.cfg s.argHact s.argVact s.argRate = some ⟨.fieldOverflow, .hActive, s.argHact⟩ :=
    encodeCheck_of_wide_hact hrate (by rw [hh]; decide)
  have hgroup : derivedGroup s.cfg.clockRounding s.argHact.toNat s.argVact.toNat s.argRate.toNat =
      ⟨5280, 1485, 470448000, 47045, true⟩ := by
    rw [hh, hv, hr]
    exact derivedGroup_sourceMode hm
  rw [← hgroup, ← hh]
  exact ⟨execDerive_ok s hderive, execEncode_error s _ hencode⟩

end

/-! ### The descriptor encoding (spec/41_encode.md): the checksum, the bytes of ENCODE's block and its outcome -/

namespace Sys2Proof.Machine

/-! The checksum (R125). -/

theorem checksum_toNat (body : List Byte) : (checksum body).toNat = (256 - byteSum body % 256) % 256 := by
  rw [checksum, BitVec.toNat_ofNat]
  exact Nat.mod_mod _ _

theorem byteSum_add_checksum (body : List Byte) : (byteSum body + (checksum body).toNat) % 256 = 0 := by
  rw [checksum_toNat]
  omega

theorem checksum_eq_zero {body : List Byte} (h : byteSum body % 256 = 0) : checksum body = 0 :=
  congrArg (fun n => BitVec.ofNat 8 ((256 - n) % 256)) h

theorem byteSum_append_singleton (l : List Byte) (x : Byte) : byteSum (l ++ [x]) = byteSum l + x.toNat := by
  simp [byteSum]

/-! ENCODE's block is a valid descriptor with the profile's bytes (R126, R127, R129). -/

theorem outBlock_blockSum (c : Cfg) (h v clk : Nat) : blockSum (outBlock c h v clk) % 256 = 0 := by
  rw [← byteSum_toList, outBlock_toList, byteSum_append_singleton]
  exact byteSum_add_checksum _

theorem bodyBefore_eq_header_append (p : Profile) :
    bodyBefore p = header ++ (p.mfr.toList ++ p.product.toList ++ p.serial.toList ++ p.date.toList ++
      p.version.toList ++ p.display.toList ++ p.color.toList ++ p.established.toList ++ p.standard.toList) := by
  simp only [bodyBefore, List.append_assoc]

theorem outBlock_hasHeader (c : Cfg) (h v clk : Nat) : hasHeader (outBlock c h v clk) := by
  have hhead : ((outBlock c h v clk).toList.take 54).take 8 = header := by
    rw [outBlock_take, bodyBefore_eq_header_append]
    exact List.take_left' rfl
  rw [List.take_take] at hhead
  exact (take_eq_header_iff _).mp hhead

theorem outBlock_profileBytes (c : Cfg) (h v clk : Nat) : profileBytes c.profile (outBlock c h v clk) := by
  constructor
  · rw [List.take_drop, outBlock_take, bodyBefore_eq_header_append]
    exact List.drop_left' rfl
  · rw [outBlock_after, bodyAfter]
    simp only [List.append_assoc]

/-- A byte of a window of a block is determined by the window's list. -/
theorem getElem_eq_of_window_eq {b b' : Vector Byte 128} {m n : Nat}
    (h : (b.toList.drop m).take n = (b'.toList.drop m).take n) {i : Nat} (hm : m ≤ i) (hn : i < m + n)
    (hi : i < 128) : b[i] = b'[i] := by
  have hget := congrArg (·[i - m]?) h
  have hlt : i - m < n := by omega
  simpa [List.getElem?_take, hlt, Nat.add_sub_cancel' hm, hi] using hget

/-- Outside the packed fields and the checksum the block is the configuration's alone (R129). -/
theorem outBlock_getElem_eq (c : Cfg) (h v clk h' v' clk' : Nat) {i : Nat} (hi : i < 128)
    (hfield : ¬ (54 ≤ i ∧ i ≤ 65)) (hsum : i ≠ 127) : (outBlock c h v clk)[i] = (outBlock c h' v' clk')[i] := by
  obtain hbefore | hafter : i < 54 ∨ 66 ≤ i := by omega
  · exact getElem_eq_of_window_eq (m := 0) (n := 54) ((outBlock_take ..).trans (outBlock_take ..).symm)
      (Nat.zero_le i) (by omega) hi
  · exact getElem_eq_of_window_eq (m := 66) (n := 61) ((outBlock_after ..).trans (outBlock_after ..).symm)
      hafter (by omega) hi

/-! The packed fields as numbers (R80 to R84, R120 to R123). -/

theorem packClock_toNat {clk : Nat} (hc : clk ≤ 65535) :
    (packClock (BitVec.ofNat 16 clk)).map (·.toNat) = [clk % 256, clk / 256] := by
  simp only [packClock, List.map_cons, List.map_nil, BitVec.extractLsb'_toNat, Nat.shiftRight_eq_div_pow,
    BitVec.toNat_ofNat, List.cons.injEq, and_true]
  omega

/-- The blanking counts of the block have 8 bits, so the high nibble of the shared byte is 0 (R82, R83). -/
theorem packPair_toNat {a b : Nat} (ha : a ≤ 4095) (hb : b ≤ 255) :
    (packPair (BitVec.ofNat 12 a) (BitVec.ofNat 12 b)).map (·.toNat) = [a % 256, b, a / 256] := by
  simp only [packPair, List.map_cons, List.map_nil, toNat_append_eq_add, BitVec.extractLsb'_toNat,
    Nat.shiftRight_eq_div_pow, BitVec.toNat_ofNat, List.cons.injEq, and_true]
  omega

/-- Only the horizontal offset is wider than its part of bytes 62..64, so byte 65 holds its two high bits alone
(R84). -/
theorem syncBytes_toNat (c : Cfg) :
    (syncBytes c).map (·.toNat) =
      [c.hSyncOffset.toNat % 256, c.hSyncPulse.toNat, 16 * c.vSyncOffset.toNat + c.vSyncPulse.toNat,
        64 * (c.hSyncOffset.toNat / 256)] := by
  obtain ⟨_, _, _, _⟩ := c.syncParameters_le
  simp only [syncBytes, packSync, List.map_cons, List.map_nil, toNat_append_eq_add, BitVec.extractLsb'_toNat,
    Nat.shiftRight_eq_div_pow, BitVec.toNat_setWidth, List.cons.injEq, and_true]
  omega

theorem dtdFields_toNat (c : Cfg) {h v clk : Nat} (hh : h ≤ 4095) (hv : v ≤ 4095) (hc : clk ≤ 65535) :
    (dtdFields c h v clk).map (·.toNat) =
      [clk % 256, clk / 256, h % 256, 160, h / 256, v % 256, 45, v / 256, c.hSyncOffset.toNat % 256,
        c.hSyncPulse.toNat, 16 * c.vSyncOffset.toNat + c.vSyncPulse.toNat, 64 * (c.hSyncOffset.toNat / 256)] := by
  simp only [dtdFields, List.map_append, packClock_toNat hc, packPair_toNat hh (show hBlank ≤ 255 by decide),
    packPair_toNat hv (show vBlank ≤ 255 by decide), syncBytes_toNat]
  rfl

/-- Block byte `54 + j` as the number of packed byte `j` (R80). -/
theorem outBlock_field_toNat {c : Cfg} {h v clk : Nat} {l : List Nat}
    (hl : (dtdFields c h v clk).map (·.toNat) = l) (j : Nat) (hj : j < 12) :
    (outBlock c h v clk)[54 + j].toNat = l[j]'(by rw [← hl, List.length_map, dtdFields_length]; exact hj) := by
  subst hl
  rw [outBlock_field c h v clk j hj, List.getElem_map]

/-! ENCODE's first failing check, read off the operands, and its clock (R126, R166). -/

section

variable {c : Cfg} {h v r : Word}

theorem encodeCheck_of_unlisted_rate (hr : r.toNat ∉ c.rateSet) :
    encodeCheck c h v r = some ⟨.unsupportedRefreshRate, .noField, r⟩ :=
  if_pos (mt (rateOk_iff c r).mp hr)

theorem encodeCheck_of_wide_vact (hr : r.toNat ∈ c.rateSet) (hh : h.toNat ≤ 4095) (hv : 4095 < v.toNat) :
    encodeCheck c h v r = some ⟨.fieldOverflow, .vActive, v⟩ :=
  (if_neg (not_not_intro ((rateOk_iff c r).mpr hr))).trans ((if_neg hh.not_gt).trans (if_pos hv))

theorem encodeCheck_of_wide_clock (hr : r.toNat ∈ c.rateSet) (hh : h.toNat ≤ 4095) (hv : v.toNat ≤ 4095)
    (hc : 65535 < clk10k c.clockRounding h.toNat v.toNat r.toNat) :
    encodeCheck c h v r = some ⟨.fieldOverflow, .pixelClock,
      BitVec.ofNat 32 (clk10k c.clockRounding h.toNat v.toNat r.toNat)⟩ :=
  (if_neg (not_not_intro ((rateOk_iff c r).mpr hr))).trans
    ((if_neg hh.not_gt).trans ((if_neg hv.not_gt).trans (if_pos hc)))

end

/-- The clock of 12-bit counts and a 16-bit rate (R126). -/
theorem clk10k_le {h v r : Nat} (m : Rounding) (hh : h ≤ 4095) (hv : v ≤ 4095) (hr : r ≤ 65535) :
    clk10k m h v r ≤ 115444490 := by
  have hp : pclkHz h v r ≤ 4255 * 4140 * 65535 :=
    Nat.mul_le_mul (Nat.mul_le_mul (Nat.add_le_add_right hh 160) (Nat.add_le_add_right hv 45)) hr
  have hq : clk10k m h v r ≤ pclkHz h v r / 10000 + 1 := roundq_le _ _ m
  omega

/-- A valid OUT group after ENCODE is the block of the operands (R126). -/
theorem execEncode_out_some {s t : State} {b : Vector Byte 128} (h : execEncode s = .next t) (hb : t.out = some b) :
    b = outBlock s.cfg s.argHact.toNat s.argVact.toNat
      (clk10k s.cfg.clockRounding s.argHact.toNat s.argVact.toNat s.argRate.toNat) := by
  obtain ⟨_, _, ht⟩ | ⟨_, ht⟩ := execEncode_cases s <;> cases ht.symm.trans h <;> cases hb
  rfl

/-- VALIDATE reports OK on a valid block (R140). -/
theorem execValidate_of_inputValid {s : State} (h : s.inputValid) :
    execValidate s = .next (s.withResult 2 .ok .noField 0) :=
  execValidate_ok s (s.inputCheck_none_iff_valid.mpr h)

/-! The invariant of the OUT group: ENCODE alone makes it valid, and with its block. -/

theorem execEncode_outInv {s t : State} (h : execEncode s = .next t) : t.outInv := by
  intro b hb
  have hcfg : t.cfg = s.cfg := by
    obtain ⟨_, _, _, _, _, _, rfl, _⟩ := exec_writes (i := .encode) h
    rfl
  rw [execEncode_out_some h hb, hcfg]
  exact ⟨outBlock_hasHeader _ _ _ _, outBlock_blockSum .., outBlock_profileBytes ..⟩

theorem runCommand_outInv {w : Word} {s t : State} (hs : s.outInv) (h : runCommand w s = .next t) : t.outInv := by
  by_cases h1 : w = 1
  · subst h1
    exact execEncode_outInv h
  · obtain ⟨_, _, _, _, _, _, rfl, ho, _, _⟩ := runCommand_writes h
    obtain rfl := ho h1
    exact hs

theorem step_outInv {s t : State} (hs : s.outInv) (h : step s = .next t) : t.outInv := by
  obtain ⟨_, _, _, _, _, _, _, _, rfl⟩ | ⟨_, _, _, rest, t', _, _, hrun, rfl⟩ | ⟨_, _, rfl⟩ := step_effects h
  · exact hs
  · have ht' : t'.outInv := runCommand_outInv (s := s.setPending rest) hs hrun
    exact ht'
  · rintro b ⟨⟩

end Sys2Proof.Machine

section

open Sys2Proof Sys2Proof.Machine

/-- Settles O49: ENCODE alone makes the OUT group valid, and its block has the header, a zero sum and the profile's
bytes. -/
theorem readableDescriptorsStayValid : Obligations.ReadableDescriptorsStayValid :=
  fun _ _ hs h => step_outInv hs h

/-- Settles O8: one clause per check, and the block of accepted operands read off its packed fields. -/
theorem encodeOutcome : Obligations.EncodeOutcome := by
  refine ⟨decode_encode .encode, ?_⟩
  rintro s _ _ _ _ hw rfl rfl rfl rfl
  refine ⟨fun hr => execEncode_error s _ (encodeCheck_of_unlisted_rate hr),
    fun hr hh => execEncode_error s _ (encodeCheck_of_wide_hact hr hh),
    fun hr hh hv => execEncode_error s _ (encodeCheck_of_wide_vact hr hh hv),
    fun hr hh hv hc => ?_, fun hr hh hv hc => ?_⟩
  · have hle := clk10k_le s.cfg.clockRounding hh hv (rate_le_of_wellFormed hw hr)
    exact ⟨_, (BitVec.toNat_ofNat _ _).trans (Nat.mod_eq_of_lt (hle.trans_lt (by decide))), hle,
      execEncode_error s _ (encodeCheck_of_wide_clock hr hh hv hc)⟩
  · have hbyte := outBlock_field_toNat (dtdFields_toNat s.cfg hh hv hc)
    exact ⟨_, execEncode_ok s ((encodeCheck_none_iff _ _ _ _).mpr ⟨hr, hh, hv, hc⟩), outBlock_hasHeader _ _ _ _,
      outBlock_profileBytes .., outBlock_blockSum .., hbyte 0 (by decide), hbyte 1 (by decide), hbyte 2 (by decide),
      hbyte 3 (by decide), hbyte 4 (by decide), hbyte 5 (by decide), hbyte 6 (by decide), hbyte 7 (by decide),
      hbyte 8 (by decide), hbyte 9 (by decide), hbyte 10 (by decide), hbyte 11 (by decide)⟩

/-- Settles O15: the check and the block are functions of the configuration and the three argument registers. -/
theorem encodeIsDeterministic : Obligations.EncodeIsDeterministic := by
  intro s s' t t' hcfg hh hv hr h h' hok
  obtain ⟨he, hout⟩ := execEncode_succeeds h hok
  rw [← hcfg, ← hh, ← hv, ← hr] at he hout
  cases (execEncode_ok s' he).symm.trans h'
  exact ⟨rfl, hout.symm⟩

/-- Settles O16: bytes 0..53 and 66..126 of ENCODE's block are the configuration's. -/
theorem profileBytesDoNotDependOnArguments : Obligations.ProfileBytesDoNotDependOnArguments := by
  intro s s' t t' b b' hcfg h h' hb hb' i hfield hsum
  obtain rfl := execEncode_out_some h hb
  obtain rfl := execEncode_out_some h' hb'
  rw [hcfg]
  exact outBlock_getElem_eq _ _ _ _ _ _ _ i.isLt hfield hsum

/-- Settles O17: ENCODE's block has the header and a zero sum, so no check of VALIDATE fails on it. -/
theorem encodedBlocksValidate : Obligations.EncodedBlocksValidate := by
  intro s t b h _ hb
  obtain ⟨hheader, hsum, _⟩ := execEncode_outInv h b hb
  have hvalid : { t with inBuf := b, inLen := 128 }.inputValid := ⟨rfl, hheader, hsum⟩
  exact ⟨hvalid, execValidate_of_inputValid hvalid⟩

/-- Settles O25, by the value of the checksum. -/
theorem checksumMakesTheSumZero : Obligations.ChecksumMakesTheSumZero :=
  fun body _ => ⟨checksum_toNat body, byteSum_add_checksum body, checksum_eq_zero⟩

end

/-! ### The checksum validator (spec/42_validate.md): the checks of a presented block, and single-bit flips -/

namespace Sys2Proof.Machine

/-! The first failing check of a presented block, read off its length, header and sum (R141 to R143, R166). -/

section

variable {s : State}

theorem State.inputCheck_of_length (hl : s.inLen ≠ 128) : s.inputCheck = some ⟨.lengthMismatch, .noField, s.inLen⟩ :=
  if_pos (mt s.lenOk_iff.mp hl)

theorem State.inputCheck_of_header (hl : s.inLen = 128) (hh : ¬ hasHeader s.inBuf) :
    s.inputCheck = some ⟨.headerMismatch, .noField, 0⟩ :=
  (if_neg (not_not_intro (s.lenOk_iff.mpr hl))).trans (if_pos (mt s.hdrOk_iff.mp hh))

theorem State.inputCheck_of_sum (hl : s.inLen = 128) (hh : hasHeader s.inBuf) (hs : blockSum s.inBuf % 256 ≠ 0) :
    s.inputCheck = some ⟨.checksumMismatch, .noField, BitVec.ofNat 32 (blockSum s.inBuf % 256)⟩ := by
  rw [← s.inSum_eq] at hs ⊢
  exact (if_neg (not_not_intro (s.lenOk_iff.mpr hl))).trans
    ((if_neg (not_not_intro (s.hdrOk_iff.mpr hh))).trans (if_pos hs))

theorem execValidate_of_header (hl : s.inLen = 128) (hh : ¬ hasHeader s.inBuf) :
    execValidate s = .next (s.withResult 2 .headerMismatch .noField 0) :=
  execValidate_error s _ (State.inputCheck_of_header hl hh)

theorem execValidate_of_sum {n : Nat} (hl : s.inLen = 128) (hh : hasHeader s.inBuf)
    (hs : blockSum s.inBuf % 256 = n) (hn : n ≠ 0) :
    execValidate s = .next (s.withResult 2 .checksumMismatch .noField (BitVec.ofNat 32 n)) := by
  subst hs
  exact execValidate_error s _ (State.inputCheck_of_sum hl hh hn)

end

/-! One flipped bit (R145): what it does to the byte, to the header and to the sum. -/

/-- Setting a clear bit adds its weight. -/
theorem toNat_xor_twoPow_of_clear {w k : Nat} {x : BitVec w} (hk : k < w) (h : x.getLsbD k = false) :
    (x ^^^ BitVec.twoPow w k).toNat = x.toNat + 2 ^ k := by
  have hand : x &&& BitVec.twoPow w k = 0#w := by simp [BitVec.and_twoPow, h]
  have hxor : x ^^^ BitVec.twoPow w k = x + BitVec.twoPow w k := by
    rw [BitVec.add_eq_or_of_and_eq_zero _ _ hand]
    ext j hj
    by_cases hjk : j = k
    · subst hjk
      simp [← BitVec.getLsbD_eq_getElem, h]
    · simp [hjk]
  rw [hxor, BitVec.toNat_add_of_and_eq_zero hand, BitVec.toNat_twoPow_of_lt hk]

/-- Clearing a set bit takes its weight away: flipping it again sets it. -/
theorem toNat_xor_twoPow_of_set {w k : Nat} {x : BitVec w} (hk : k < w) (h : x.getLsbD k = true) :
    (x ^^^ BitVec.twoPow w k).toNat + 2 ^ k = x.toNat := by
  have hclear : (x ^^^ BitVec.twoPow w k).getLsbD k = false := by simp [h, hk]
  rw [← toNat_xor_twoPow_of_clear hk hclear, BitVec.xor_assoc, BitVec.xor_self, BitVec.xor_zero]

theorem xor_twoPow_ne_self {w k : Nat} (x : BitVec w) (hk : k < w) : x ^^^ BitVec.twoPow w k ≠ x := by
  intro h
  have hbit := congrArg (·.getLsbD k) h
  simp [hk] at hbit

/-- The weight of a byte's bit (R145). -/
theorem two_pow_bit_lt (k : Fin 8) : 2 ^ k.val < 256 := Nat.pow_lt_pow_right (by decide) k.isLt

/-- A replaced byte changes the sum by the difference of the two bytes (R143). -/
theorem blockSum_set (b : Vector Byte 128) (i : Fin 128) (x : Byte) :
    blockSum (b.set i.val x) + b[i.val].toNat = blockSum b + x.toNat := by
  have hrest : ∑ j ∈ {i}ᶜ, (b.set i.val x)[j.val].toNat = ∑ j ∈ {i}ᶜ, b[j.val].toNat := by
    refine Finset.sum_congr rfl fun j hj => ?_
    rw [Vector.getElem_set_ne _ _ (by simpa [Fin.ext_iff, eq_comm] using hj)]
  rw [blockSum, blockSum, Fintype.sum_eq_add_sum_compl i, Fintype.sum_eq_add_sum_compl i fun j => b[j.val].toNat, hrest,
    Vector.getElem_set_self]
  omega

/-- The header depends on bytes 0..7 alone (R142). -/
theorem hasHeader_set_of_ge {b : Vector Byte 128} (hb : hasHeader b) {i : Nat} (hi : i < 128) (x : Byte) (h : 8 ≤ i) :
    hasHeader (b.set i x) := by
  intro j
  rw [Vector.getElem_set_ne _ _ (by omega)]
  exact hb j

/-- The header fixes each of bytes 0..7 (R142). -/
theorem not_hasHeader_set {b : Vector Byte 128} (hb : hasHeader b) {i : Nat} (hi : i < 8) {x : Byte} (hx : x ≠ b[i]) :
    ¬ hasHeader (b.set i x) := by
  intro h
  have hnew := h ⟨i, hi⟩
  rw [← hb ⟨i, hi⟩, Vector.getElem_set_self] at hnew
  exact hx hnew

/-- Setting a clear bit `k` of a block with a zero sum leaves the sum `2^k` (R145). -/
theorem blockSum_set_clear_bit {b : Vector Byte 128} (hb : blockSum b % 256 = 0) (i : Fin 128) (k : Fin 8)
    (h : b[i.val].getLsbD k.val = false) :
    blockSum (b.set i.val (b[i.val] ^^^ BitVec.twoPow 8 k.val)) % 256 = 2 ^ k.val := by
  have hsum := blockSum_set b i (b[i.val] ^^^ BitVec.twoPow 8 k.val)
  rw [toNat_xor_twoPow_of_clear k.isLt h] at hsum
  have hpos := Nat.two_pow_pos k.val
  have hlt := two_pow_bit_lt k
  omega

/-- Clearing a set bit `k` of a block with a zero sum leaves the sum `256 - 2^k` (R145). -/
theorem blockSum_clear_set_bit {b : Vector Byte 128} (hb : blockSum b % 256 = 0) (i : Fin 128) (k : Fin 8)
    (h : b[i.val].getLsbD k.val = true) :
    blockSum (b.set i.val (b[i.val] ^^^ BitVec.twoPow 8 k.val)) % 256 = 256 - 2 ^ k.val := by
  have hsum := blockSum_set b i (b[i.val] ^^^ BitVec.twoPow 8 k.val)
  rw [← toNat_xor_twoPow_of_set k.isLt h] at hsum
  have hpos := Nat.two_pow_pos k.val
  have hlt := two_pow_bit_lt k
  omega

end Sys2Proof.Machine

section

open Sys2Proof Sys2Proof.Machine

/-- Settles O10: one clause per check, in the order of R166. -/
theorem validateOutcome : Obligations.ValidateOutcome :=
  ⟨decode_encode .validate, fun s =>
    ⟨fun hl => execValidate_error s _ (State.inputCheck_of_length hl),
      fun hl hh => execValidate_of_header hl hh, fun hl hh hs => execValidate_of_sum hl hh rfl hs,
      fun hl hh hs => execValidate_of_inputValid ⟨hl, hh, hs⟩⟩⟩

/-- Settles O20: a flip in a header byte breaks the header, and any other keeps it and changes the zero sum by `2^k`. -/
theorem singleBitFlipsAreDetected : Obligations.SingleBitFlipsAreDetected := by
  rintro s s' i k ⟨hl, hh, hs⟩ rfl
  refine ⟨fun hi => ?_, fun hi hbit => ?_, fun hi hbit => ?_⟩
  · exact execValidate_of_header hl (not_hasHeader_set hh hi (xor_twoPow_ne_self _ k.isLt))
  · exact execValidate_of_sum hl (hasHeader_set_of_ge hh i.isLt _ hi) (blockSum_set_clear_bit hs i k hbit)
      (Nat.two_pow_pos k.val).ne'
  · exact execValidate_of_sum hl (hasHeader_set_of_ge hh i.isLt _ hi) (blockSum_clear_set_bit hs i k hbit)
      (Nat.sub_ne_zero_of_lt (two_pow_bit_lt k))

/-- Settles O21: the checks read only `IN_LEN` and `IN`, which VALIDATE keeps, so the second one ends as the first. -/
theorem validateIsIdempotent : Obligations.ValidateIsIdempotent := by
  intro s
  obtain ⟨e, he, h⟩ | ⟨he, h⟩ := execValidate_cases s
  · exact ⟨e.code, e.field, e.info, h, execValidate_error _ e ((State.inputCheck_congr rfl rfl).trans he)⟩
  · exact ⟨.ok, .noField, 0, h, execValidate_ok _ ((State.inputCheck_congr rfl rfl).trans he)⟩

end

/-! ### The unpacker (spec/43_unpack.md): the fields of a presented block, and the two round trips -/

namespace Sys2Proof.Machine

/-- UNPACK of a valid block leaves the fields of its DTD (R151). -/
theorem execUnpack_of_inputValid {s : State} (h : s.inputValid) :
    execUnpack s = .next { s.withResult 4 .ok .noField 0 with uGroup := some (unpackDtd (dtdByte s.inBuf)) } :=
  execUnpack_ok s (s.inputCheck_none_iff_valid.mpr h)

/-- Block bytes 54..65 are DTD bytes 0..11 (R80). -/
theorem dtdByte_window (b : Vector Byte 128) :
    (b.toList.drop 54).take 12 = [dtdByte b 0, dtdByte b 1, dtdByte b 2, dtdByte b 3, dtdByte b 4, dtdByte b 5,
      dtdByte b 6, dtdByte b 7, dtdByte b 8, dtdByte b 9, dtdByte b 10, dtdByte b 11] := by
  change _ = List.ofFn fun j : Fin 12 => dtdByte b (j.castLE (by decide))
  apply List.ext_getElem
  · simp
  · intro i _ _
    rw [List.getElem_take, List.getElem_drop, Vector.getElem_toList, List.getElem_ofFn]
    rfl

/-! The U group as numbers (R150). -/

/-- A U register of a field that lies in two bytes: the low part, and the high part above it (R150). -/
theorem toNat_setWidth_append {m n : Nat} (x : BitVec m) (y : BitVec n) (h : m + n ≤ 32) :
    ((x ++ y).setWidth 32).toNat = y.toNat + 2 ^ n * x.toNat := by
  rw [BitVec.toNat_setWidth_of_le h, toNat_append_eq_add, Nat.add_comm, Nat.mul_comm]

/-- Bits `k` to `k + n - 1` of a byte, as a number. -/
theorem extractLsb'_byte_toNat (x : Byte) (k n : Nat) : (x.extractLsb' k n).toNat = x.toNat / 2 ^ k % 2 ^ n := by
  rw [BitVec.extractLsb'_toNat, Nat.shiftRight_eq_div_pow]

theorem unpackDtd_toNat (d : Fin 18 → Byte) :
    (unpackDtd d).clock10k.toNat = (d 0).toNat + 256 * (d 1).toNat ∧
      (unpackDtd d).hact.toNat = (d 2).toNat + 256 * ((d 4).toNat % 16) ∧
      (unpackDtd d).hblank.toNat = (d 3).toNat + 256 * ((d 4).toNat / 16) ∧
      (unpackDtd d).vact.toNat = (d 5).toNat + 256 * ((d 7).toNat % 16) ∧
      (unpackDtd d).vblank.toNat = (d 6).toNat + 256 * ((d 7).toNat / 16) ∧
      (unpackDtd d).hso.toNat = (d 8).toNat + 256 * ((d 11).toNat / 64) ∧
      (unpackDtd d).hsp.toNat = (d 9).toNat + 256 * ((d 11).toNat / 16 % 4) ∧
      (unpackDtd d).vso.toNat = (d 10).toNat / 16 + 16 * ((d 11).toNat / 4 % 4) ∧
      (unpackDtd d).vsp.toNat = (d 10).toNat % 16 + 16 * ((d 11).toNat % 4) := by
  simp only [unpackDtd, unpackClock, unpackHact, unpackHblank, unpackVact, unpackVblank, unpackHso, unpackHsp,
    unpackVso, unpackVsp]
  simp (disch := decide) only [toNat_setWidth_append, extractLsb'_byte_toNat]
  omega

/-! Unpacking ENCODE's block (R152): no field is wider than its place in the DTD. -/

theorem outBlock_window (c : Cfg) (h v clk : Nat) :
    ((outBlock c h v clk).toList.drop 54).take 12 = dtdFields c h v clk := by
  rw [outBlock_split, List.drop_left' (bodyBefore_length _), List.take_left' (dtdFields_length _ _ _ _)]

theorem unpackDtd_outBlock {c : Cfg} {h v clk : Nat} {b : Vector Byte 128} {u : UGroup} (hh : h ≤ 4095)
    (hv : v ≤ 4095) (hc : clk ≤ 65535) (hb : b = outBlock c h v clk) (hu : u = unpackDtd (dtdByte b)) :
    u.clock10k.toNat = clk ∧ u.hact.toNat = h ∧ u.hblank.toNat = 160 ∧ u.vact.toNat = v ∧ u.vblank.toNat = 45 ∧
      u.hso.toNat = c.hSyncOffset.toNat ∧ u.hsp.toNat = c.hSyncPulse.toNat ∧ u.vso.toNat = c.vSyncOffset.toNat ∧
      u.vsp.toNat = c.vSyncPulse.toNat := by
  have hbytes := dtdFields_toNat c hh hv hc
  rw [← outBlock_window, ← hb, dtdByte_window] at hbytes
  simp only [List.map_cons, List.map_nil, List.cons.injEq, and_true] at hbytes
  have hfields := unpackDtd_toNat (dtdByte b)
  rw [← hu] at hfields
  have hsync := c.syncParameters_le
  omega

/-! Packing a DTD's fields again (R153): each byte is put together from the parts the unpacker took. -/

/-- A field survives its zero-extension to a register (R34). -/
theorem setWidth_setWidth_word {n : Nat} (x : BitVec n) (h : n ≤ 32) : (x.setWidth 32).setWidth n = x := by
  rw [BitVec.setWidth_setWidth_of_le x h, BitVec.setWidth_eq]

theorem packClock_append (lo hi : Byte) : packClock (hi ++ lo) = [lo, hi] := by
  rw [packClock, BitVec.extractLsb'_append_eq_right, BitVec.extractLsb'_append_eq_left]

/-- A byte is its two nibbles. -/
theorem nibbles_append (x : Byte) : x.extractLsb' 4 4 ++ x.extractLsb' 0 4 = x :=
  (BitVec.extractLsb'_append_extractLsb'_eq_extractLsb' (Nat.zero_add 4).symm).trans BitVec.extractLsb'_eq_self

/-- A byte is its four bit pairs (R84). -/
theorem bitPairs_append (x : Byte) :
    x.extractLsb' 6 2 ++ x.extractLsb' 4 2 ++ x.extractLsb' 2 2 ++ x.extractLsb' 0 2 = x := by
  rw [BitVec.extractLsb'_append_extractLsb'_eq_extractLsb' (show 6 = 4 + 2 from rfl),
    BitVec.extractLsb'_append_extractLsb'_eq_extractLsb' (show 4 = 2 + 2 from rfl),
    BitVec.extractLsb'_append_extractLsb'_eq_extractLsb' (show 2 = 0 + 2 from rfl)]
  exact BitVec.extractLsb'_eq_self

theorem packPair_append (lo blank shared : Byte) :
    packPair (shared.extractLsb' 0 4 ++ lo) (shared.extractLsb' 4 4 ++ blank) = [lo, blank, shared] := by
  simp only [packPair, BitVec.extractLsb'_append_eq_right, BitVec.extractLsb'_append_eq_left, nibbles_append]

theorem packSync_append (oh ph v shared : Byte) :
    packSync (shared.extractLsb' 6 2 ++ oh) (shared.extractLsb' 4 2 ++ ph)
        (shared.extractLsb' 2 2 ++ v.extractLsb' 4 4) (shared.extractLsb' 0 2 ++ v.extractLsb' 0 4) =
      [oh, ph, v, shared] := by
  simp only [packSync, BitVec.extractLsb'_append_eq_right, BitVec.extractLsb'_append_eq_left, nibbles_append,
    bitPairs_append]

/-- No bit of DTD bytes 0..11 is lost (R153). -/
theorem packDtd_unpackDtd {d : Fin 18 → Byte} {u : UGroup} (hu : u = unpackDtd d) :
    packClock (u.clock10k.setWidth 16) ++ packPair (u.hact.setWidth 12) (u.hblank.setWidth 12) ++
        packPair (u.vact.setWidth 12) (u.vblank.setWidth 12) ++
        packSync (u.hso.setWidth 10) (u.hsp.setWidth 10) (u.vso.setWidth 6) (u.vsp.setWidth 6) =
      [d 0, d 1, d 2, d 3, d 4, d 5, d 6, d 7, d 8, d 9, d 10, d 11] := by
  subst hu
  simp (disch := decide) only [unpackDtd, setWidth_setWidth_word, unpackClock, unpackHact, unpackHblank, unpackVact,
    unpackVblank, unpackHso, unpackHsp, unpackVso, unpackVsp, packClock_append, packPair_append, packSync_append]
  rfl

end Sys2Proof.Machine

section

open Sys2Proof Sys2Proof.Machine

/-- Settles O11: one clause per check, in the order of R166, and the fields of a valid block as numbers. -/
theorem unpackOutcome : Obligations.UnpackOutcome :=
  ⟨decode_encode .unpack, fun s =>
    ⟨fun hl => execUnpack_error s _ (State.inputCheck_of_length hl),
      fun hl hh => execUnpack_error s _ (State.inputCheck_of_header hl hh),
      fun hl hh hs => execUnpack_error s _ (State.inputCheck_of_sum hl hh hs),
      fun hvalid => ⟨_, execUnpack_of_inputValid hvalid, unpackDtd_toNat _⟩⟩⟩

/-- Settles O18: ENCODE's block is valid, and each field of its DTD holds the number that ENCODE packed. -/
theorem unpackInvertsEncode : Obligations.UnpackInvertsEncode := by
  intro s t b h hok hb
  obtain ⟨hvalid, _⟩ := encodedBlocksValidate s t b h hok hb
  obtain ⟨_, hh, hv, hc⟩ := (encodeCheck_none_iff _ _ _ _).mp (execEncode_succeeds h hok).1
  obtain ⟨hclock, hhact, hhblank, hvact, hvblank, hsync⟩ :=
    unpackDtd_outBlock hh hv hc (execEncode_out_some h hb) rfl
  exact ⟨_, execUnpack_of_inputValid hvalid, hclock, BitVec.eq_of_toNat_eq hhact, BitVec.eq_of_toNat_eq hhblank,
    BitVec.eq_of_toNat_eq hvact, BitVec.eq_of_toNat_eq hvblank, hsync⟩

/-- Settles O19: the packer's parts of each field are the bits the unpacker read it from. -/
theorem packInvertsUnpack : Obligations.PackInvertsUnpack := by
  intro s t u hvalid h hu
  cases (execUnpack_of_inputValid hvalid).symm.trans h
  cases hu
  exact (packDtd_unpackDtd rfl).trans (dtdByte_window s.inBuf).symm

end

/-! ### Exceptions (spec/60_exceptions.md): the words that are no command, and the table of codes -/

namespace Sys2Proof

/-- The opcodes that are not reserved are those of the four commands (R71). -/
theorem mem_opcodes_iff (op : BitVec 4) : op ∈ [1#4, 2#4, 3#4, 4#4] ↔ ∃ i, op = opcode i := by
  constructor
  · intro h
    obtain rfl | rfl | rfl | rfl : op = 1 ∨ op = 2 ∨ op = 3 ∨ op = 4 := by simpa using h
    exacts [⟨.encode, rfl⟩, ⟨.validate, rfl⟩, ⟨.derive, rfl⟩, ⟨.unpack, rfl⟩]
  · rintro ⟨i, rfl⟩
    cases i <;> decide

/-- A reserved opcode is 0 or 5..15 (R72). -/
theorem reserved_opcode_range : ∀ op : BitVec 4, op ∉ [1#4, 2#4, 3#4, 4#4] → op = 0 ∨ 4 < op.toNat := by decide

theorem decode_eq_command_iff_fields (w : Word) (i : Instr) :
    decode w = .command i ↔ rsvdField w = 0 ∧ opField w = opcode i := by
  constructor
  · intro h
    obtain rfl := eq_encode_of_decode h
    cases i <;> decide
  · rintro ⟨hr, ho⟩
    cases i <;> simp [decode, hr, ho, opcode]

/-- A word is no command exactly by its reserved bits or its opcode (R164). -/
theorem decode_ne_command_iff (w : Word) :
    (∀ i, decode w ≠ .command i) ↔ rsvdField w ≠ 0 ∨ opField w ∉ [1#4, 2#4, 3#4, 4#4] := by
  rw [mem_opcodes_iff, ← not_and_or, ← exists_and_left, ← not_exists]
  simp only [decode_eq_command_iff_fields]

end Sys2Proof

namespace Sys2Proof.Machine

/-! The words that are no command (R164). -/

theorem runCommand_illegal {w : Word} (hi : rsvdField w ≠ 0 ∨ opField w ∉ [1#4, 2#4, 3#4, 4#4]) (s : State) :
    runCommand w s = .next (s.illegalCommand (opField w) w) := by
  obtain ⟨i, hdec, _⟩ | ⟨_, hrun⟩ := runCommand_cases w s
  · exact absurd hdec ((decode_ne_command_iff w).mpr hi i)
  · exact hrun

/-! The result registers after each end of a command are a row of the table (R160, R161). What they held before does
not matter, so these lemmas assume no invariant. -/

theorem State.illegalCommand_resultInv {w : Word} (hi : ∀ i, decode w ≠ .command i) (s : State) :
    (s.illegalCommand (opField w) w).resultInv :=
  ⟨rfl, rfl, ((decode_ne_command_iff w).mp hi).imp_right (reserved_opcode_range _)⟩

/-- The error of a presented block, raised by VALIDATE, or by UNPACK with the U group invalid (R141 to R143). -/
theorem State.raise_inputCheck_resultInv {s : State} {e : CommandError} (he : s.inputCheck = some e) {t : State}
    (ht : t.lastOp = 2 ∨ (t.lastOp = 4 ∧ t.uGroup = none)) : (t.raise e).resultInv := by
  obtain ⟨hlen, rfl⟩ | ⟨_, _, rfl⟩ | ⟨_, _, hsum, rfl⟩ := s.inputCheck_some e he
  · have hne : s.inLen ≠ 128 := fun h => by simp [s.lenOk_iff.mpr h] at hlen
    exact ⟨rfl, hne, ht⟩
  · exact ⟨rfl, rfl, ht⟩
  · have hlt := s.inSum_lt
    have hinfo : (BitVec.ofNat 32 s.inSum).toNat = s.inSum :=
      (BitVec.toNat_ofNat _ _).trans (Nat.mod_eq_of_lt (by omega))
    exact ⟨rfl, (Nat.one_le_iff_ne_zero.mpr hsum).trans_eq hinfo.symm, hinfo.trans_le (Nat.le_of_lt_succ hlt), ht⟩

/-- The rates are 16-bit, so the clock that ENCODE reports does not wrap in `INFO` (R126). -/
theorem execEncode_resultInv {s t : State} (hw : s.cfg.wellFormed = true) (h : execEncode s = .next t) :
    t.resultInv := by
  obtain ⟨e, he, ht⟩ | ⟨_, ht⟩ := execEncode_cases s <;> cases ht.symm.trans h
  · obtain ⟨hr, rfl⟩ | ⟨_, hh, rfl⟩ | ⟨_, _, hv, rfl⟩ | ⟨hr, hh, hv, hc, rfl⟩ := encodeCheck_some _ _ _ _ e he
    · exact ⟨rfl, hr, .inl ⟨rfl, rfl⟩⟩
    · exact .inl ⟨.inl rfl, .inl ⟨rfl, rfl, hh⟩⟩
    · exact .inl ⟨.inr rfl, .inl ⟨rfl, rfl, hv⟩⟩
    · have hle := clk10k_le s.cfg.clockRounding hh hv (rate_le_of_wellFormed hw hr)
      have hinfo := (BitVec.toNat_ofNat _ 32).trans (Nat.mod_eq_of_lt (hle.trans_lt (by decide)))
      exact .inr ⟨rfl, rfl, rfl, hc.trans_eq hinfo.symm⟩
  · exact ⟨rfl, rfl, .inl ⟨rfl, rfl⟩⟩

theorem execValidate_resultInv {s t : State} (h : execValidate s = .next t) : t.resultInv := by
  obtain ⟨e, he, ht⟩ | ⟨_, ht⟩ := execValidate_cases s <;> cases ht.symm.trans h
  · exact State.raise_inputCheck_resultInv he (.inl rfl)
  · exact ⟨rfl, rfl, .inr (.inl rfl)⟩

theorem execDerive_resultInv {s t : State} (h : execDerive s = .next t) : t.resultInv := by
  obtain ⟨e, he, ht⟩ | ⟨_, ht⟩ := execDerive_cases s <;> cases ht.symm.trans h
  · obtain ⟨hr, rfl⟩ | ⟨_, hh, rfl⟩ | ⟨_, _, hv, rfl⟩ := deriveCheck_some _ _ _ _ e he
    · exact ⟨rfl, hr, .inr ⟨rfl, rfl⟩⟩
    · exact .inl ⟨.inl rfl, .inr ⟨rfl, rfl, hh⟩⟩
    · exact .inl ⟨.inr rfl, .inr ⟨rfl, rfl, hv⟩⟩
  · exact ⟨rfl, rfl, .inr (.inr (.inl ⟨rfl, rfl⟩))⟩

theorem execUnpack_resultInv {s t : State} (h : execUnpack s = .next t) : t.resultInv := by
  obtain ⟨e, he, ht⟩ | ⟨_, ht⟩ := execUnpack_cases s <;> cases ht.symm.trans h
  · exact State.raise_inputCheck_resultInv he (.inr ⟨rfl, rfl⟩)
  · exact ⟨rfl, rfl, .inr (.inr (.inr ⟨rfl, rfl⟩))⟩

theorem exec_resultInv {i : Instr} {s t : State} (hw : s.cfg.wellFormed = true) (h : exec i s = .next t) :
    t.resultInv := by
  cases i with
  | encode => exact execEncode_resultInv hw h
  | validate => exact execValidate_resultInv h
  | derive => exact execDerive_resultInv h
  | unpack => exact execUnpack_resultInv h

theorem runCommand_resultInv {w : Word} {s t : State} (hw : s.cfg.wellFormed = true)
    (h : runCommand w s = .next t) : t.resultInv := by
  obtain ⟨i, _, hrun⟩ | ⟨hi, hrun⟩ := runCommand_cases w s
  · exact exec_resultInv hw (hrun.symm.trans h)
  · cases hrun.symm.trans h
    exact State.illegalCommand_resultInv hi s

theorem State.resetWith_resultInv (c : Cfg) : (State.resetWith c).resultInv :=
  ⟨rfl, rfl, rfl, rfl, rfl, rfl⟩

theorem step_resultInv {s t : State} (hs : s.resultInv) (h : step s = .next t) : t.resultInv := by
  obtain ⟨_, _, _, _, _, _, _, _, rfl⟩ | ⟨_, _, _, rest, t', _, _, hrun, rfl⟩ | ⟨_, _, rfl⟩ := step_effects h
  · exact hs
  · have ht' : t'.resultInv := runCommand_resultInv (s := s.setPending rest) (step_cases h).1 hrun
    exact ht'
  · exact State.resetWith_resultInv s.cfg

end Sys2Proof.Machine

section

open Sys2Proof Sys2Proof.Machine

/-- Settles O48: every end of a command is a row of the table, a reset is the row of `NONE`, and no other input writes
the result registers. -/
theorem resultRegistersStayConsistent : Obligations.ResultRegistersStayConsistent :=
  fun _ _ hs h => step_resultInv hs h

/-- Settles O2: a write at `CMD` of a word that decodes to no command ends in `illegalCommand`. -/
theorem illegalWordsChangeOnlyTheResult : Obligations.IllegalWordsChangeOnlyTheResult :=
  fun s _ rest hw hp hi =>
    step_write (r := .cmd) hw hp rfl (congrArg some (runCommand_illegal hi (s.setPending rest)))

/-- Settles O29: size and alignment are conditions of a bus error at every offset, and O2 gives the whole state after an
illegal word. -/
theorem busErrorsAndIllegalWordsComeFirst : Obligations.BusErrorsAndIllegalWordsComeFirst := by
  intro s off n v rest hw hp
  refine ⟨fun hacc => step_write_fault hw hp (.inl (or_assoc.mp (.inl hacc))), ?_⟩
  rintro rfl rfl hi
  exact ⟨_, illegalWordsChangeOnlyTheResult s v rest hw hp hi, rfl, rfl, rfl, rfl, rfl⟩

end

/-! ### Reset and hazards (spec/70_reset_and_hazards.md): the state after reset, and what no other input forgets -/

namespace Sys2Proof.Machine

/-! What an input that is no reset leaves of the results (R182, R184). -/

theorem busTarget_eq_cmd_iff (off : BitVec 12) (n : Nat) : busTarget off n = some .cmd ↔ n = 4 ∧ off = 0x000 := by
  rw [busTarget_eq_some_iff, ← BitVec.toNat_inj, eq_comm (a := off.toNat)]
  rfl

/-- The opcode 0 is reserved (R71). -/
theorem opcode_ne_zero (i : Instr) : opcode i ≠ 0 := by
  cases i <;> decide

/-- `NONE` goes with the opcode 0 in the table of codes (R160), and a command leaves its own opcode. -/
theorem exec_code_ne_noCommand {i : Instr} {s t : State} (hw : s.cfg.wellFormed = true) (h : exec i s = .next t) :
    t.code ≠ .noCommand := by
  intro hcode
  have hlast : t.lastOp = opcode i := by
    obtain ⟨_, _, _, _, _, _, rfl, _⟩ := exec_writes h
    rfl
  have hinv := exec_resultInv hw h
  rw [State.resultInv, hcode] at hinv
  obtain ⟨_, _, hzero, _⟩ := hinv
  exact opcode_ne_zero i (hlast.symm.trans hzero)

theorem runCommand_code_ne_noCommand {w : Word} {s t : State} (hw : s.cfg.wellFormed = true)
    (h : runCommand w s = .next t) : t.code ≠ .noCommand := by
  obtain ⟨i, _, hrun⟩ | ⟨_, hrun⟩ := runCommand_cases w s
  · exact exec_code_ne_noCommand hw (hrun.symm.trans h)
  · cases hrun.symm.trans h
    exact Code.noConfusion

/-- Reset aside, `NONE` is never written, and each group is written by the word of its owner alone (R182). -/
theorem step_keeps {s t : State} {x : HostInput} {rest : List HostInput} (hp : s.pending = x :: rest)
    (hreset : x ≠ .reset) (h : step s = .next t) :
    (t.code = .noCommand → s.code = .noCommand) ∧ (x ≠ .write 0x000 4 1 → t.out = s.out) ∧
      (x ≠ .write 0x000 4 3 → t.dGroup = s.dGroup) ∧ (x ≠ .write 0x000 4 4 → t.uGroup = s.uGroup) := by
  obtain ⟨_, _, _, _, _, _, _, _, rfl⟩ | ⟨off, n, w, _, t', hp', hb, hrun, rfl⟩ | ⟨_, hp', _⟩ := step_effects h
  · exact ⟨id, fun _ => rfl, fun _ => rfl, fun _ => rfl⟩
  · obtain ⟨rfl, rfl⟩ := (busTarget_eq_cmd_iff off n).mp hb
    cases hp.symm.trans hp'
    have hcode : t'.code ≠ .noCommand := runCommand_code_ne_noCommand (s := s.setPending rest) (step_cases h).1 hrun
    obtain ⟨_, _, _, _, _, _, rfl, hout, hd, hu⟩ := runCommand_writes hrun
    exact ⟨fun hnone => absurd hnone hcode, fun hne => hout (mt (congrArg _) hne), fun hne => hd (mt (congrArg _) hne),
      fun hne => hu (mt (congrArg _) hne)⟩
  · cases hp.symm.trans hp'
    exact absurd rfl hreset

/-- A group that became invalid was not kept. -/
theorem of_group_lost {α : Type} {o o' : Option α} {p : Prop} (hkeep : ¬ p → o' = o) (hvalid : o.isSome = true)
    (hlost : o' = none) : p :=
  by_contra fun hp => Option.isSome_iff_ne_none.mp hvalid ((hkeep hp).symm.trans hlost)

/-! The state after reset (R180, R183). -/

/-- The entries of a well-formed rate set are at least 1 (R7 item 1), so the operand after reset is no rate. -/
theorem zero_notMem_rateSet {c : Cfg} (hw : c.wellFormed = true) : 0 ∉ c.rateSet := by
  obtain ⟨_, _, _, _, hrange, _⟩ := c.wellFormed_iff.mp hw
  exact fun h0 => absurd (hrange 0 h0).1 (by decide)

/-- After reset the argument registers hold 0, which no rate set lists (R181). -/
theorem resetWith_rate_unlisted {c : Cfg} (hw : c.wellFormed = true) :
    (State.resetWith c).argRate.toNat ∉ (State.resetWith c).cfg.rateSet :=
  zero_notMem_rateSet hw

/-- After reset `IN_LEN` holds 0, which is no block's length (R181). -/
theorem resetWith_inLen_ne (c : Cfg) : (State.resetWith c).inLen ≠ 128 :=
  show (0 : Word) ≠ 128 by decide

theorem State.resetWith_statusWord (c : Cfg) : (State.resetWith c).statusWord = 0x0000000F :=
  BitVec.eq_of_toNat_eq (State.statusWord_toNat _)

theorem State.resetWith_invariants (c : Cfg) :
    (State.resetWith c).resultInv ∧ (State.resetWith c).outInv ∧ (State.resetWith c).dInv ∧
      (State.resetWith c).uInv :=
  ⟨State.resetWith_resultInv c, nofun, nofun, nofun⟩

end Sys2Proof.Machine

section

open Sys2Proof Sys2Proof.Machine

/-- Settles O39: the written register is not `CMD`, and no other one holds a result. -/
theorem resultsAreSnapshots : Obligations.ResultsAreSnapshots := by
  intro s t off n v rest hp hoff h
  obtain ⟨_, _, _, _, _, _, _, _, rfl⟩ | ⟨_, _, _, _, _, hp', hb, _⟩ | ⟨_, hp', _⟩ := step_effects h
  · exact ⟨rfl, rfl, rfl, rfl, rfl⟩
  · cases hp.symm.trans hp'
    exact absurd ((busTarget_eq_cmd_iff off n).mp hb).2 hoff
  · cases hp.symm.trans hp'

/-- Settles O47: a group that its owner's word does not write is kept, so a valid one stays valid. -/
theorem onlyResetForgets : Obligations.OnlyResetForgets := by
  intro s t x rest hp hreset h
  obtain ⟨hcode, hout, hd, hu⟩ := step_keeps hp hreset h
  exact ⟨hcode, of_group_lost hout, of_group_lost hd, of_group_lost hu⟩

/-- Settles O44: the registers by `State.resetWith`, and the reads by the groups being invalid. -/
theorem stateAfterReset : Obligations.StateAfterReset := by
  rintro c s rfl
  refine ⟨⟨rfl, rfl, rfl, rfl, rfl, rfl, rfl, State.resetWith_statusWord c, rfl, rfl, rfl, rfl, rfl, rfl,
    fun i => Vector.getElem_replicate i.isLt⟩, fun hw => ⟨State.reads_of_readReg _ hw .cmd _ rfl,
      fun k => State.readIsBusError_of_readReg _ hw (r := .outW k) rfl, ?_⟩⟩
  exact List.forall_mem_append.mpr ⟨(dGroupReads _ hw).2 rfl, (uGroupReads _ hw).2 rfl⟩

/-- Settles O45, by `deliver`'s arm for a reset. -/
theorem resetInputRestoresTheResetState : Obligations.ResetInputRestoresTheResetState := by
  intro s rest hw hp
  rw [step_deliver hw hp, deliver, State.resetBlock_eq]
  rfl

/-- Settles O46: on operands of 0 the rate check of ENCODE and DERIVE fails, and the length check of VALIDATE and
UNPACK. -/
theorem firstCommandAfterReset : Obligations.FirstCommandAfterReset := by
  rintro c s hw rfl
  have hrate := resetWith_rate_unlisted hw
  have hlen := State.inputCheck_of_length (resetWith_inLen_ne c)
  exact ⟨execEncode_error _ _ (encodeCheck_of_unlisted_rate hrate),
    execDerive_error _ _ (deriveCheck_of_unlisted_rate hrate), execValidate_error _ _ hlen,
    execUnpack_error _ _ hlen⟩

/-- Settles O52: `NONE` is a row of the table of codes, and no group is valid. -/
theorem invariantsHoldAfterReset : Obligations.InvariantsHoldAfterReset := by
  obtain ⟨hresult, hout, hd, hu⟩ := State.resetWith_invariants Config.built
  exact ⟨State.resetWith_invariants, hresult, hout, hd, hu, reset_wellFormed⟩

end
